-- ==== Sys2Proof/Word.lean ====
section
/-!
DEFINITION. The word types of the mouse-card core: bytes and bus addresses. Coordinates and times, whose widths are
parameters (00_scope R6), are numbers below a power of two (log 3).
-/

namespace Sys2Proof

/-- A byte: every bus access moves exactly one (20_memory R61). -/
abbrev Byte := BitVec 8

/-- A 16-bit host-bus address (20_memory R60). -/
abbrev Addr := BitVec 16

end Sys2Proof
end

