-- ==== Sys2Proof/Config.lean ====
section
/-!
DEFINITION. What an implementation fixes: the parameters of 00_scope R6 (their defaults and constraints are in
Machine/Parameters.lean), and the free values: the OPEN contents of the ROM image, and what a poll drives on the
feedback bits.
-/

namespace Sys2Proof

/-- The debug ROM-write path's two OPEN parameters (00_scope R6, decisions D18, D44). -/
structure DebugPath where
  /-- DEBUG_OFFSET: device-register offset, 0..15, of the sentinel write. -/
  offset : Nat
  /-- DEBUG_SENTINEL: the byte that sets the debug latch. -/
  sentinel : Byte
deriving DecidableEq, Repr

/-- The parameters of 00_scope R6, all but two: ROM_SIZE is derived from them, ROM_IMAGE is a free value. -/
structure Params where
  /-- SLOT -/
  slot : Nat
  /-- DEV_BASE -/
  devBase : Nat
  /-- DEV_SIZE -/
  devSize : Nat
  /-- ROM_BASE -/
  romBase : Nat
  /-- PAGE_SIZE -/
  pageSize : Nat
  /-- PAGE_COUNT -/
  pageCount : Nat
  /-- PAGE_LO -/
  pageLo : Nat
  /-- PAGE_BITS -/
  pageBits : Nat
  /-- WREQ_BIT -/
  wreqBit : Nat
  /-- RACK_BIT -/
  rackBit : Nat
  /-- HS_FEEDBACK: the port-B bits the protocol machine drives back to the host, [] for none (log 6). -/
  hsFeedback : List Nat
  /-- RV_LO -/
  rvLo : Addr
  /-- RV_HI -/
  rvHi : Addr
  /-- RESET_ENTRY -/
  resetEntry : Addr
  /-- DEBUG_PATH_PRESENT is that this is not none; then DEBUG_OFFSET and DEBUG_SENTINEL. -/
  debugPath : Option DebugPath
  /-- CLAMP_MAX_DEFAULT -/
  clampMaxDefault : Nat
  /-- INTERVAL_50, in microseconds -/
  interval50 : Nat
  /-- INTERVAL_60, in microseconds -/
  interval60 : Nat
  /-- INTERVAL_RESET, in microseconds -/
  intervalReset : Nat
  /-- COORD_W, in bits (log 3) -/
  coordW : Nat
  /-- TIME_W, in bits (log 3) -/
  timeW : Nat
  /-- PBUF_N -/
  pbufN : Nat
  /-- RBUF_N -/
  rbufN : Nat
deriving DecidableEq, Repr

/-- ROM_IMAGE, the power-on contents of the ROM image: an OPEN parameter (00_scope R6, decision D43), so a free
value; nothing can be proved of any byte of it (log 4). -/
opaque Config.romImage : Nat → Byte

/-- What the `n`-th poll that drives feedback bits puts on port B's inputs: a free value, since the spec gives no rule for
the bits of HS_FEEDBACK (42_protocol R192, log 6). -/
opaque Config.feedback : Nat → Byte

end Sys2Proof
end

