-- ==== Sys2Proof/Machine/Parameters.lean ====
section
/-!
DEFINITION. The parameters of 00_scope R6: derived sizes, defaults, and the constraints under which R6 admits them.
-/

namespace Sys2Proof

/-- ROM_SIZE = PAGE_COUNT * PAGE_SIZE (00_scope R6). -/
def Params.romSize (p : Params) : Nat := p.pageCount * p.pageSize

/-- DEBUG_PATH_PRESENT (00_scope R6). -/
def Params.debugPresent (p : Params) : Bool := p.debugPath.isSome

/-- The defaults of 00_scope R6 for the expansion slot SLOT (decisions D4, D13, D14, D15, D18, D24, D25, D29, D38;
log 12). -/
def Params.forSlot (slot : Nat) : Params where
  slot := slot
  devBase := 0xC080 + 16 * slot
  devSize := 16
  romBase := 0xC000 + 256 * slot
  pageSize := 256
  pageCount := 8
  pageLo := 1
  pageBits := 3
  wreqBit := 4
  rackBit := 5
  hsFeedback := []
  rvLo := 0xFFFC
  rvHi := 0xFFFD
  resetEntry := 0xFA62
  debugPath := none
  clampMaxDefault := 1023
  interval50 := 20000
  interval60 := 16666
  intervalReset := 16666
  coordW := 16
  timeW := 64
  pbufN := 8
  rbufN := 8

/-- The defaults with SLOT = 4, the slot of the spec's test vectors. -/
def Params.default : Params := Params.forSlot 4

/-- The constraints and the table's ranges (SLOT, DEBUG_OFFSET) under which 00_scope R6 admits parameters, with what
its widths and R7's "must lie in 0..2^w-1" imply
(log 3): port-B bits are bits of an 8-bit port, a refresh interval is at most the 20000 of the no-wrap premise (R279),
the widths hold the values the rules store, and the buffers hold the longest parameter list and reply. -/
abbrev Params.valid (p : Params) : Prop :=
  1 ≤ p.slot ∧ p.slot ≤ 7 ∧
  p.wreqBit ≠ p.rackBit ∧
  p.wreqBit < 8 ∧ p.rackBit < 8 ∧ p.pageLo + p.pageBits ≤ 8 ∧
  ¬ (p.pageLo ≤ p.wreqBit ∧ p.wreqBit < p.pageLo + p.pageBits) ∧
  ¬ (p.pageLo ≤ p.rackBit ∧ p.rackBit < p.pageLo + p.pageBits) ∧
  2 ^ p.pageBits = p.pageCount ∧
  2 ^ p.pageSize.log2 = p.pageSize ∧
  (∀ d ∈ p.debugPath, d.offset < 16 ∧ d.offset < p.devSize) ∧
  p.interval50 ≤ 20000 ∧ p.interval60 ≤ 20000 ∧ p.intervalReset ≤ 20000 ∧
  (∀ j ∈ p.hsFeedback, j < 8) ∧
  16 ≤ p.coordW ∧ p.clampMaxDefault < 2 ^ p.coordW ∧ 20000 < 2 ^ p.timeW ∧
  4 ≤ p.pbufN ∧ 5 ≤ p.rbufN

/-- The bound of the no-wrap premise on the time source, 2^TIME_W (44_mouse_engine R279, 60_exceptions R311). -/
abbrev timeInRange (p : Params) (now : Nat) : Prop := now + 20000 < 2 ^ p.timeW

/-- The parameters that R6 marks *source* have the values the source gives. -/
abbrev Params.sourceValues (p : Params) : Prop :=
  p.clampMaxDefault = 1023 ∧ p.interval50 = 20000 ∧ p.interval60 = 16666

end Sys2Proof
end

