-- ==== Sys2Proof/Syntax.lean ====
section
/-!
DEFINITION. The syntax: bus samples, the actions that the environment may choose, and Instr, one constructor
per row of spec/opcode_table.json.
-/

namespace Sys2Proof

/-- The two 8-bit ports of the register model (00_scope R12). -/
inductive Port where
  | A
  | B
deriving DecidableEq, Repr

/-- One bus transaction as the host's bus delivers it (30_encoding R80). -/
structure BusSample where
  /-- SEL: the card is selected. -/
  sel : Bool
  /-- ROM: a peripheral-ROM access. -/
  rom : Bool
  /-- DEV: a device-register access. -/
  dev : Bool
  /-- RW: true for a read, false for a write. -/
  rw : Bool
  addr : Addr
  /-- The byte a write sample carries; not used for a read. -/
  data : Byte
deriving DecidableEq, Repr

/-- The three classes of a sample (41_bus_dispatch R152). -/
inductive SampleClass where
  | dev
  | rom
  | none
deriving DecidableEq, Repr

/-- An action as it reaches the block: what the environment chooses to come next (20_memory R65, R66). The
arguments are held in types wide enough to say an argument outside the domains of 60_exceptions R311. -/
inductive Stimulus where
  /-- Sampler: one bus sample, as its 20-bit sample word (30_encoding R81) and its data byte. -/
  | sample (word : BitVec 20) (data : Byte)
  /-- Service: a protocol poll (42_protocol R180). -/
  | protoPoll
  /-- Service: a movement report (44_mouse_engine R273). -/
  | move (dx dy : Int)
  /-- Service: a button report, `p` = pressed (44_mouse_engine R275). -/
  | button (i : Nat) (p : Bool)
  /-- Service: a refresh-timer check at the time `now` in microseconds (44_mouse_engine R276). -/
  | refreshPoll (now : Nat)
  /-- Environment: an outside writer of an input latch (41_bus_dispatch R163). -/
  | setInput (port : Port) (v : Byte)
  /-- Environment: an outside call of Reinitialize (70_reset_and_hazards R340). -/
  | reinitialize
deriving DecidableEq, Repr

/-- One constructor per row of spec/opcode_table.json. A bus row keeps the whole 16-bit address (the detector
compares it, 70_reset R345) and the flag bits its row leaves open; a command row keeps its sub-mode bits. -/
inductive Instr where
  /-- BUS_W_R0, 40_pia_registers R122. `rom` is the row's don't-care ROM flag. -/
  | busWR0 (rom : Bool) (addr : Addr) (d : Byte)
  /-- BUS_R_R0, R123. -/
  | busRR0 (rom : Bool) (addr : Addr)
  /-- BUS_W_R1, R124. -/
  | busWR1 (rom : Bool) (addr : Addr) (d : Byte)
  /-- BUS_R_R1, R125. -/
  | busRR1 (rom : Bool) (addr : Addr)
  /-- BUS_W_R2, R126. -/
  | busWR2 (rom : Bool) (addr : Addr) (d : Byte)
  /-- BUS_R_R2, R127. -/
  | busRR2 (rom : Bool) (addr : Addr)
  /-- BUS_W_R3, R128. -/
  | busWR3 (rom : Bool) (addr : Addr) (d : Byte)
  /-- BUS_R_R3, R129. -/
  | busRR3 (rom : Bool) (addr : Addr)
  /-- BUS_R_ROM, 41_bus_dispatch R157. -/
  | busRRom (addr : Addr)
  /-- BUS_W_ROM, R158. -/
  | busWRom (addr : Addr) (d : Byte)
  /-- BUS_UNSEL, R159: SEL = 0, every other flag open. -/
  | busUnsel (rom dev rw : Bool) (addr : Addr)
  /-- BUS_SEL_NOWIN, R159: selected, neither window flag. -/
  | busSelNowin (rw : Bool) (addr : Addr)
  /-- SETMODE, 43_commands R220: the new MODE nibble. -/
  | setMode (m : BitVec 4)
  /-- READSTATUS, R221. -/
  | readStatus (sub : BitVec 4)
  /-- SERVE, R222. -/
  | serve (sub : BitVec 4)
  /-- CLEARPOS, R223. -/
  | clearPos (sub : BitVec 4)
  /-- SETPOS, R224; its four parameter bytes are read from PBUF (42_protocol R186). -/
  | setPos (sub : BitVec 4)
  /-- INIT, R225. -/
  | init (sub : BitVec 4)
  /-- SETCLAMP, R226: `sub[3:1]` ignored, `sub[0]` true for the Y axis. -/
  | setClamp (sub : BitVec 3) (axisY : Bool)
  /-- HOME, R227. -/
  | home (sub : BitVec 4)
  /-- NOP8, R228. -/
  | nop8 (sub : BitVec 4)
  /-- SETTIMING, R229: `sub[3:2]` the parameter count, `sub[1]` ignored, `sub[0]` true for 50 Hz. -/
  | setTiming (count : BitVec 2) (ignored : Bool) (hz50 : Bool)
  /-- VENDOR, R230. -/
  | vendor (sub : BitVec 4)
  /-- NOPB, R231. -/
  | nopB (sub : BitVec 4)
  /-- NOPC, R232. -/
  | nopC (sub : BitVec 4)
  /-- NOPD, R233. -/
  | nopD (sub : BitVec 4)
  /-- NOPE, R234. -/
  | nopE (sub : BitVec 4)
  /-- NOPF, R235. -/
  | nopF (sub : BitVec 4)
  /-- ProtoPoll, 42_protocol R180. -/
  | protoPoll
  /-- Move, 44_mouse_engine R273. -/
  | move (dx dy : Int)
  /-- Button, R275. -/
  | button (i : Nat) (p : Bool)
  /-- RefreshPoll, R276. -/
  | refreshPoll (now : Nat)
  /-- SetInput, 41_bus_dispatch R163. -/
  | setInput (port : Port) (v : Byte)
  /-- Reinitialize, 70_reset R341. -/
  | reinitialize
deriving DecidableEq, Repr

end Sys2Proof
end

