-- ==== Sys2Proof/Machine/State.lean ====
section
/-!
DEFINITION. The state of the block (10_state R20 to R52), the reasons a step can stop, and the power-on state.
-/

namespace Sys2Proof.Machine

/-- The state of the reset-sequence detector, RSTATE (10_state R50; three states, 90_conflicts C2). -/
inductive RState where
  /-- RSTATE = 0: waits for RV_LO. -/
  | waitLow
  /-- RSTATE = 1: the sample just before was RV_LO; waits for RV_HI. -/
  | waitHigh
  /-- RSTATE = 2: the two samples just before were RV_LO, RV_HI; waits for RESET_ENTRY. -/
  | waitEntry
deriving DecidableEq, Repr

/-- The architectural state, element by element as 10_state names them; the last five fields are the model's own. X,
Y, PX, PY and the clamp bounds are numbers below 2^COORD_W, RDEADLINE one below 2^TIME_W (log 3). -/
structure State where
  /-- DDRA (R21) -/
  ddra : Byte
  /-- ORA (R22) -/
  ora : Byte
  /-- CRA bits 5:0; bits 7:6 are not stored and read as 0 (R23, log 14) -/
  cra : BitVec 6
  /-- INA (R24) -/
  ina : Byte
  /-- DDRB (R25) -/
  ddrb : Byte
  /-- ORB (R26) -/
  orb : Byte
  /-- CRB bits 5:0 (R27, log 14) -/
  crb : BitVec 6
  /-- INB (R28) -/
  inb : Byte
  /-- ROMOFF, the cached ROM-page offset (R29) -/
  romoff : Nat
  /-- CMD (R31) -/
  cmd : Byte
  /-- PCNT, 0..4 (R32) -/
  pcnt : Fin 5
  /-- PBUF[0..PBUF_N-1] (R33) -/
  pbuf : List Byte
  /-- RBUF[0..RBUF_N-1] (R34) -/
  rbuf : List Byte
  /-- RCNT, 0..RBUF_N (R35) -/
  rcnt : Nat
  /-- PBSNAP (R36) -/
  pbsnap : Byte
  /-- X (R37) -/
  x : Nat
  /-- Y (R37) -/
  y : Nat
  /-- PX (R38) -/
  px : Nat
  /-- PY (R38) -/
  py : Nat
  /-- BTN0, 1 = pressed (R39) -/
  btn0 : Bool
  /-- BTN1 (R39) -/
  btn1 : Bool
  /-- PBTN0 (R39) -/
  pbtn0 : Bool
  /-- PBTN1 (R39) -/
  pbtn1 : Bool
  /-- MODE (R40) -/
  mode : BitVec 4
  /-- MOVED (R41) -/
  moved : Bool
  /-- CAUSE_MOVE (R42) -/
  causeMove : Bool
  /-- CAUSE_BTN (R42) -/
  causeBtn : Bool
  /-- CAUSE_REF (R42) -/
  causeRef : Bool
  /-- MINX (R44) -/
  minx : Nat
  /-- MAXX (R44) -/
  maxx : Nat
  /-- MINY (R44) -/
  miny : Nat
  /-- MAXY (R44) -/
  maxy : Nat
  /-- RINTERVAL, in microseconds (R45) -/
  rinterval : Nat
  /-- RDEADLINE; none is UNARMED (R46) -/
  rdeadline : Option Nat
  /-- IRQ, true = asserted (R47) -/
  irq : Bool
  /-- DBGWE (R48) -/
  dbgwe : Bool
  /-- ROM: the bytes of the image that differ from ROM_IMAGE, by rising index (R49, log 19) -/
  rom : List Host.Cell
  /-- RSTATE (R50) -/
  rstate : RState
  /-- MODEL: the parameters of 00_scope R6, which no step changes (log 2) -/
  params : Params
  /-- MODEL: the actions the environment has chosen to come next, the next one first (20_memory R66, log 1) -/
  inputs : List Stimulus
  /-- MODEL: the greatest `now` of the run so far (60_exceptions R311, log 9) -/
  lastNow : Nat
  /-- MODEL: what the last action put out, none where the block drives nothing (41_bus_dispatch R160, log 10) -/
  out : Option Byte
  /-- MODEL: how many polls have drawn a free value for the feedback bits (42_protocol R192, log 6) -/
  drawn : Nat
deriving DecidableEq, Repr

/-- Why a step faults. The block itself raises no fault (60_exceptions R310). -/
inductive Fault where
  /-- A ROM-window access whose index lies outside 0..ROM_SIZE-1, raised by BUS_R_ROM and an enabled BUS_W_ROM. No
  run reaches it (41_bus_dispatch R156: the index is always below ROM_SIZE). Safe: the machine stops (log 5). -/
  | romOutsideImage
deriving DecidableEq, Repr

/-- Why an action is refused: the model gives it no step (60_exceptions R311). -/
inductive Refusal where
  /-- An instruction without a meaning, raised by an arm of exec that is still open. Safe: the machine stops. -/
  | notModelled (mnemonic : String)
  /-- Move with a delta outside -128..127, raised by Move (R311). Safe: the action gets no step (log 8). -/
  | moveOutsideSignedByte
  /-- Button with an index other than 0 and 1, raised by Button (R311). Safe (log 8). -/
  | buttonIndexOutside
  /-- RefreshPoll with now + 20000 at or above 2^TIME_W, raised by RefreshPoll (R311, 44_mouse_engine R279). Safe (log 8). -/
  | timeOutOfRange
  /-- RefreshPoll with a time before an earlier one of the run, raised by RefreshPoll (R311, R279). Safe (log 8). -/
  | timeNotMonotonic
  /-- A sample whose flags disagree with the windows of 41_bus_dispatch R151, raised by the step that would take it (R311,
  90_conflicts C12). Safe: the action gets no step (log 7). -/
  | sampleFlagsDisagree
deriving DecidableEq, Repr

/-- The power-on state under parameters `p`: 10_state R52's "after power-on" column (70_reset_and_hazards R343). -/
def State.powerOn (p : Params) : State where
  ddra := 0
  ora := 0
  cra := 0
  ina := 0
  ddrb := 0
  orb := 0
  crb := 0
  inb := 0
  romoff := 0
  cmd := 0
  pcnt := 0
  pbuf := List.replicate p.pbufN 0
  rbuf := List.replicate p.rbufN 0
  rcnt := 0
  pbsnap := 0
  x := 0
  y := 0
  px := 0
  py := 0
  btn0 := false
  btn1 := false
  pbtn0 := false
  pbtn1 := false
  mode := 0
  moved := false
  causeMove := false
  causeBtn := false
  causeRef := false
  minx := 0
  maxx := p.clampMaxDefault
  miny := 0
  maxy := p.clampMaxDefault
  rinterval := p.intervalReset
  rdeadline := none
  irq := false
  dbgwe := false
  rom := []
  rstate := .waitLow
  params := p
  inputs := []
  lastNow := 0
  out := none
  drawn := 0

/-- The machine right after power-on, with the default parameters of 00_scope R6. -/
def State.reset : State := State.powerOn Params.default

end Sys2Proof.Machine
end

