-- ==== Sys2Proof/Machine/Flags.lean ====
section
/-!
DEFINITION. The flags: the effective interrupt enables, the latched causes taken together, and the status byte.
-/

namespace Sys2Proof.Machine

/-- `moveIE = MODE[0] & MODE[1]` (10_state R40). -/
def moveIE (s : State) : Bool := s.mode.getLsbD 0 && s.mode.getLsbD 1

/-- `btnIE = MODE[0] & MODE[2]` (10_state R40). -/
def btnIE (s : State) : Bool := s.mode.getLsbD 0 && s.mode.getLsbD 2

/-- `refIE = MODE[0] & MODE[3]` (10_state R40). -/
def refIE (s : State) : Bool := s.mode.getLsbD 0 && s.mode.getLsbD 3

/-- `CAUSE_MOVE | CAUSE_BTN | CAUSE_REF` (44_mouse_engine R277). MOVED is no cause (90_conflicts C9). -/
def anyCause (s : State) : Bool := s.causeMove || s.causeBtn || s.causeRef

/-- A byte with `b` at bit `i` and zero elsewhere. -/
def bitAt (b : Bool) (i : Nat) : Byte := (BitVec.ofBool b).setWidth 8 <<< i

/-- `statusByte()`, computed from the fields at each use (30_encoding R93, 10_state R43). -/
def statusByte (s : State) : Byte :=
  bitAt s.btn0 7 ||| bitAt s.pbtn0 6 ||| bitAt s.moved 5 ||| bitAt s.btn1 4 |||
  bitAt s.causeRef 3 ||| bitAt s.causeBtn 2 ||| bitAt s.causeMove 1 ||| bitAt s.pbtn1 0

end Sys2Proof.Machine
end

