-- ==== Sys2Proof/WellFormed.lean ====
section
/-!
DEFINITION. Which instructions lie in their encoding's and their interface's domains, independent of the state.
-/

namespace Sys2Proof

/-- A signed byte (60_exceptions R311). -/
abbrev signedByte (d : Int) : Prop := -128 ≤ d ∧ d ≤ 127

/-- An instruction its encoding can carry: a device-register row's address has its register select in bits 1:0
(30_encoding R82), and an action's arguments lie in the domains of 60_exceptions R311 that speak neither of the run nor
of a parameter. -/
abbrev Instr.wellFormed : Instr → Prop
  | .busWR0 _ addr _ => addr.extractLsb' 0 2 = 0#2
  | .busRR0 _ addr => addr.extractLsb' 0 2 = 0#2
  | .busWR1 _ addr _ => addr.extractLsb' 0 2 = 1#2
  | .busRR1 _ addr => addr.extractLsb' 0 2 = 1#2
  | .busWR2 _ addr _ => addr.extractLsb' 0 2 = 2#2
  | .busRR2 _ addr => addr.extractLsb' 0 2 = 2#2
  | .busWR3 _ addr _ => addr.extractLsb' 0 2 = 3#2
  | .busRR3 _ addr => addr.extractLsb' 0 2 = 3#2
  | .busRRom _ => True
  | .busWRom _ _ => True
  | .busUnsel _ _ _ _ => True
  | .busSelNowin _ _ => True
  | .setMode _ => True
  | .readStatus _ => True
  | .serve _ => True
  | .clearPos _ => True
  | .setPos _ => True
  | .init _ => True
  | .setClamp _ _ => True
  | .home _ => True
  | .nop8 _ => True
  | .setTiming _ _ _ => True
  | .vendor _ => True
  | .nopB _ => True
  | .nopC _ => True
  | .nopD _ => True
  | .nopE _ => True
  | .nopF _ => True
  | .protoPoll => True
  | .move dx dy => signedByte dx ∧ signedByte dy
  | .button i _ => i ≤ 1
  | .refreshPoll _ => True
  | .setInput _ _ => True
  | .reinitialize => True

end Sys2Proof
end

