-- ==== Sys2Proof/Decode.lean ====
section
/-!
DEFINITION. The decoder and the encoder of 30_encoding: sample words, command bytes, actions; on raw bytes too.
-/

namespace Sys2Proof

/-! ### Bus samples -/

/-- The sample that a sample word and a data byte write down (30_encoding R81). -/
def BusSample.ofWord (w : BitVec 20) (data : Byte) : BusSample where
  sel := w.getLsbD 19
  rom := w.getLsbD 18
  dev := w.getLsbD 17
  rw := w.getLsbD 16
  addr := w.extractLsb' 0 16
  data := data

/-- A 20-bit word with flag `b` at bit `i` and zero elsewhere. -/
def flagBit (b : Bool) (i : Nat) : BitVec 20 := (BitVec.ofBool b).setWidth 20 <<< i

/-- The sample word of four flags and an address, SEL:ROM:DEV:RW:addr (30_encoding R81). -/
def sampleWord (sel rom dev rw : Bool) (addr : Addr) : BitVec 20 :=
  flagBit sel 19 ||| flagBit rom 18 ||| flagBit dev 17 ||| flagBit rw 16 ||| addr.setWidth 20

/-- The class of a sample, from its flags alone; DEV wins over ROM (41_bus_dispatch R152). -/
def classify (b : BusSample) : SampleClass :=
  if !b.sel then .none
  else if b.dev then .dev
  else if b.rom then .rom
  else .none

/-- A device-register sample's row: the register select `addr[1:0]` and the direction (30_encoding R82). -/
def decodeDevice (b : BusSample) : Instr :=
  match (b.addr.extractLsb' 0 2).toNat, b.rw with
  | 0, true => .busRR0 b.rom b.addr
  | 0, false => .busWR0 b.rom b.addr b.data
  | 1, true => .busRR1 b.rom b.addr
  | 1, false => .busWR1 b.rom b.addr b.data
  | 2, true => .busRR2 b.rom b.addr
  | 2, false => .busWR2 b.rom b.addr b.data
  | _, true => .busRR3 b.rom b.addr
  | _, false => .busWR3 b.rom b.addr b.data

/-- The row of opcode_table.json a sample belongs to (41_bus_dispatch R150, R152). -/
def decodeBusSample (b : BusSample) : Instr :=
  match classify b with
  | .dev => decodeDevice b
  | .rom => if b.rw then .busRRom b.addr else .busWRom b.addr b.data
  | .none => if b.sel then .busSelNowin b.rw b.addr else .busUnsel b.rom b.dev b.rw b.addr

/-- Decoding a sample word and its data byte: total, every word is in exactly one row (30_encoding R95). -/
def decodeSample (w : BitVec 20) (data : Byte) : Instr :=
  decodeBusSample (BusSample.ofWord w data)

/-! ### Command bytes -/

/-- A command byte's opcode, its top nibble (30_encoding R85). -/
def opcode (c : Byte) : BitVec 4 := c.extractLsb' 4 4

/-- A command byte's sub-mode, its bottom nibble (30_encoding R85). -/
def subMode (c : Byte) : BitVec 4 := c.extractLsb' 0 4

/-- Decoding a command byte by the opcode map (30_encoding R86): every byte is a command byte (R85). -/
def decodeCommand (c : Byte) : Instr :=
  match (opcode c).toNat with
  | 0x0 => .setMode (subMode c)
  | 0x1 => .readStatus (subMode c)
  | 0x2 => .serve (subMode c)
  | 0x3 => .clearPos (subMode c)
  | 0x4 => .setPos (subMode c)
  | 0x5 => .init (subMode c)
  | 0x6 => .setClamp (c.extractLsb' 1 3) (c.getLsbD 0)
  | 0x7 => .home (subMode c)
  | 0x8 => .nop8 (subMode c)
  | 0x9 => .setTiming (c.extractLsb' 2 2) (c.getLsbD 1) (c.getLsbD 0)
  | 0xA => .vendor (subMode c)
  | 0xB => .nopB (subMode c)
  | 0xC => .nopC (subMode c)
  | 0xD => .nopD (subMode c)
  | 0xE => .nopE (subMode c)
  | _ => .nopF (subMode c)

/-- How many parameter bytes follow a command byte: at most four (30_encoding R87; 90_conflicts C1). -/
def paramCount (c : Byte) : Fin 5 :=
  match (opcode c).toNat with
  | 0x4 => 4
  | 0x6 => 4
  | 0x9 => ⟨(c.extractLsb' 2 2).toNat, by omega⟩
  | 0xA => 1
  | _ => 0

/-! ### Actions, and what a step fetches -/

/-- The instruction that an action stands for: a sample is decoded, another action is its own row. -/
def decodeStimulus : Stimulus → Instr
  | .sample w data => decodeSample w data
  | .protoPoll => .protoPoll
  | .move dx dy => .move dx dy
  | .button i p => .button i p
  | .refreshPoll now => .refreshPoll now
  | .setInput port v => .setInput port v
  | .reinitialize => .reinitialize

/-! ### The encoder -/

/-- What an instruction is written as: an action with its sample word, or a command byte. -/
inductive Encoded where
  | stimulus (a : Stimulus)
  | command (c : Byte)
deriving DecidableEq, Repr

/-- A command byte of an opcode and a sub-mode nibble (30_encoding R85). -/
def commandByte (op sub : BitVec 4) : Byte := op ++ sub

/-- A sample as the encoder writes it; a read sample's unused data byte is 0 (30_encoding R80). -/
def encodeSample (sel rom dev rw : Bool) (addr : Addr) (data : Byte) : Encoded :=
  .stimulus (.sample (sampleWord sel rom dev rw addr) data)

/-- The encoder: each row's fixed bits and fields as opcode_table.json and 30_encoding R81, R86 give them. -/
def encode : Instr → Encoded
  | .busWR0 rom addr d => encodeSample true rom true false addr d
  | .busRR0 rom addr => encodeSample true rom true true addr 0
  | .busWR1 rom addr d => encodeSample true rom true false addr d
  | .busRR1 rom addr => encodeSample true rom true true addr 0
  | .busWR2 rom addr d => encodeSample true rom true false addr d
  | .busRR2 rom addr => encodeSample true rom true true addr 0
  | .busWR3 rom addr d => encodeSample true rom true false addr d
  | .busRR3 rom addr => encodeSample true rom true true addr 0
  | .busRRom addr => encodeSample true true false true addr 0
  | .busWRom addr d => encodeSample true true false false addr d
  | .busUnsel rom dev rw addr => encodeSample false rom dev rw addr 0
  | .busSelNowin rw addr => encodeSample true false false rw addr 0
  | .setMode m => .command (commandByte 0x0 m)
  | .readStatus sub => .command (commandByte 0x1 sub)
  | .serve sub => .command (commandByte 0x2 sub)
  | .clearPos sub => .command (commandByte 0x3 sub)
  | .setPos sub => .command (commandByte 0x4 sub)
  | .init sub => .command (commandByte 0x5 sub)
  | .setClamp sub axisY => .command (commandByte 0x6 (sub ++ BitVec.ofBool axisY))
  | .home sub => .command (commandByte 0x7 sub)
  | .nop8 sub => .command (commandByte 0x8 sub)
  | .setTiming count ignored hz50 =>
      .command (commandByte 0x9 (count ++ (BitVec.ofBool ignored ++ BitVec.ofBool hz50)))
  | .vendor sub => .command (commandByte 0xA sub)
  | .nopB sub => .command (commandByte 0xB sub)
  | .nopC sub => .command (commandByte 0xC sub)
  | .nopD sub => .command (commandByte 0xD sub)
  | .nopE sub => .command (commandByte 0xE sub)
  | .nopF sub => .command (commandByte 0xF sub)
  | .protoPoll => .stimulus .protoPoll
  | .move dx dy => .stimulus (.move dx dy)
  | .button i p => .stimulus (.button i p)
  | .refreshPoll now => .stimulus (.refreshPoll now)
  | .setInput port v => .stimulus (.setInput port v)
  | .reinitialize => .stimulus .reinitialize

/-- The decoder on what the encoder writes. -/
def decode : Encoded → Instr
  | .stimulus a => decodeStimulus a
  | .command c => decodeCommand c

/-! ### The opcode table -/

/-- The row of spec/opcode_table.json an instruction is an instruction of, by its mnemonic. -/
def Instr.mnemonic : Instr → String
  | .busWR0 _ _ _ => "BUS_W_R0"
  | .busRR0 _ _ => "BUS_R_R0"
  | .busWR1 _ _ _ => "BUS_W_R1"
  | .busRR1 _ _ => "BUS_R_R1"
  | .busWR2 _ _ _ => "BUS_W_R2"
  | .busRR2 _ _ => "BUS_R_R2"
  | .busWR3 _ _ _ => "BUS_W_R3"
  | .busRR3 _ _ => "BUS_R_R3"
  | .busRRom _ => "BUS_R_ROM"
  | .busWRom _ _ => "BUS_W_ROM"
  | .busUnsel _ _ _ _ => "BUS_UNSEL"
  | .busSelNowin _ _ => "BUS_SEL_NOWIN"
  | .setMode _ => "SETMODE"
  | .readStatus _ => "READSTATUS"
  | .serve _ => "SERVE"
  | .clearPos _ => "CLEARPOS"
  | .setPos _ => "SETPOS"
  | .init _ => "INIT"
  | .setClamp _ _ => "SETCLAMP"
  | .home _ => "HOME"
  | .nop8 _ => "NOP8"
  | .setTiming _ _ _ => "SETTIMING"
  | .vendor _ => "VENDOR"
  | .nopB _ => "NOPB"
  | .nopC _ => "NOPC"
  | .nopD _ => "NOPD"
  | .nopE _ => "NOPE"
  | .nopF _ => "NOPF"
  | .protoPoll => "ProtoPoll"
  | .move _ _ => "Move"
  | .button _ _ => "Button"
  | .refreshPoll _ => "RefreshPoll"
  | .setInput _ _ => "SetInput"
  | .reinitialize => "Reinitialize"

/-- The fixed bits of a row of the opcode table: a word is of the row when its masked bits are the pattern. -/
structure Row (n : Nat) where
  mnemonic : String
  mask : BitVec n
  pattern : BitVec n
deriving DecidableEq, Repr

/-- A word's masked bits are the row's. -/
def Row.covers {n : Nat} (r : Row n) (w : BitVec n) : Bool := w &&& r.mask == r.pattern

/-- The bus rows of spec/opcode_table.json. -/
def sampleRows : List (Row 20) :=
  [⟨"BUS_W_R0", 0xb0003, 0xa0000⟩,
   ⟨"BUS_R_R0", 0xb0003, 0xb0000⟩,
   ⟨"BUS_W_R1", 0xb0003, 0xa0001⟩,
   ⟨"BUS_R_R1", 0xb0003, 0xb0001⟩,
   ⟨"BUS_W_R2", 0xb0003, 0xa0002⟩,
   ⟨"BUS_R_R2", 0xb0003, 0xb0002⟩,
   ⟨"BUS_W_R3", 0xb0003, 0xa0003⟩,
   ⟨"BUS_R_R3", 0xb0003, 0xb0003⟩,
   ⟨"BUS_R_ROM", 0xf0000, 0xd0000⟩,
   ⟨"BUS_W_ROM", 0xf0000, 0xc0000⟩,
   ⟨"BUS_UNSEL", 0x80000, 0x0⟩,
   ⟨"BUS_SEL_NOWIN", 0xe0000, 0x80000⟩]

/-- The command rows of spec/opcode_table.json. -/
def commandRows : List (Row 8) :=
  [⟨"SETMODE", 0xf0, 0x0⟩,
   ⟨"READSTATUS", 0xf0, 0x10⟩,
   ⟨"SERVE", 0xf0, 0x20⟩,
   ⟨"CLEARPOS", 0xf0, 0x30⟩,
   ⟨"SETPOS", 0xf0, 0x40⟩,
   ⟨"INIT", 0xf0, 0x50⟩,
   ⟨"SETCLAMP", 0xf0, 0x60⟩,
   ⟨"HOME", 0xf0, 0x70⟩,
   ⟨"NOP8", 0xf0, 0x80⟩,
   ⟨"SETTIMING", 0xf0, 0x90⟩,
   ⟨"VENDOR", 0xf0, 0xa0⟩,
   ⟨"NOPB", 0xf0, 0xb0⟩,
   ⟨"NOPC", 0xf0, 0xc0⟩,
   ⟨"NOPD", 0xf0, 0xd0⟩,
   ⟨"NOPE", 0xf0, 0xe0⟩,
   ⟨"NOPF", 0xf0, 0xf0⟩]

/-! ### Raw bytes -/

/-- Why a run of bytes is no sample or no command. -/
inductive DecodeError where
  /-- Fewer than the four bytes of a sample. -/
  | sampleTooShort
  /-- A bit above the sample word's 20 bits is set. -/
  | sampleWordTooWide
  /-- No command byte. -/
  | noCommandByte
  /-- Fewer parameter bytes than the command byte asks for. -/
  | parametersMissing
deriving DecidableEq, Repr

/-- A sample laid out as bytes: the 20-bit word in three bytes, least significant first, then the data byte
(DESIGN CHOICE, log 18: the sample word is the spec's notation and has no storage format). -/
def decodeSampleBytes : List Byte → Except DecodeError (Instr × List Byte)
  | b0 :: b1 :: b2 :: data :: rest =>
    if b2.extractLsb' 4 4 = 0#4 then
      .ok (decodeSample (b2.extractLsb' 0 4 ++ (b1 ++ b0)) data, rest)
    else .error .sampleWordTooWide
  | _ => .error .sampleTooShort

/-- A command laid out as bytes in host send order: the command byte, then paramCount parameter bytes; nothing else
marks its length (30_encoding R96). Answers the command, its parameters in send order and what follows. -/
def decodeCommandBytes : List Byte → Except DecodeError (Instr × List Byte × List Byte)
  | [] => .error .noCommandByte
  | c :: rest =>
    if (paramCount c).val ≤ rest.length then
      .ok (decodeCommand c, rest.take (paramCount c).val, rest.drop (paramCount c).val)
    else .error .parametersMissing

/-- The instruction the decoder reads from a table row's bits `w`, bit 0 the least significant: a row of one byte
is a command (its parameter bytes zero), a wider row a sample word (its data byte zero). -/
def decodeTableWord (nbits w : Nat) : Option Instr :=
  if nbits ≤ 8 then
    if w < 2 ^ 8 then
      match decodeCommandBytes [BitVec.ofNat 8 w, 0, 0, 0, 0] with
      | .ok (i, _, _) => some i
      | .error _ => none
    else none
  else if w < 2 ^ 24 then
    match decodeSampleBytes [BitVec.ofNat 8 w, BitVec.ofNat 8 (w >>> 8), BitVec.ofNat 8 (w >>> 16), 0] with
    | .ok (i, _) => some i
    | .error _ => none
  else none

end Sys2Proof
end

