-- ==== Sys2Proof/Machine/Operands.lean ====
section
/-!
DEFINITION. The operand forms: composite ports, ROM index, 16-bit operands from the parameter buffer, and the
integer arithmetic of the mouse engine.
-/

namespace Sys2Proof.Machine

/-! ### Ports (40_pia_registers R121, 10_state R30) -/

/-- `derivePort(o, d, i) = (o & d) | (i & ~d)` (40_pia_registers R121). -/
def derivePort (o d i : Byte) : Byte := (o &&& d) ||| (i &&& ~~~d)

/-- PA, the composite value of port A, computed at each use (10_state R30). -/
def portA (s : State) : Byte := derivePort s.ora s.ddra s.ina

/-- PB, the composite value of port B, computed at each use (10_state R30). -/
def portB (s : State) : Byte := derivePort s.orb s.ddrb s.inb

/-- A control register as read: its stored bits 5:0, bits 7:6 zero (30_encoding R83). -/
def crByte (cr : BitVec 6) : Byte := cr.setWidth 8

/-- What a control-register write stores: `data & 0x3F` (30_encoding R83). -/
def crStored (d : Byte) : BitVec 6 := d.setWidth 6

/-- Bit 2 of a control register, SEL_OR (30_encoding R83). -/
def selOr (cr : BitVec 6) : Bool := cr.getLsbD 2

/-! ### ROM paging (41_bus_dispatch R155, R156) -/

/-- `romPageOffset(orb, ddrb)`: PAGE_SIZE times the page field of the bits port B drives (41_bus_dispatch R155). -/
def romPageOffset (p : Params) (orb ddrb : Byte) : Nat :=
  p.pageSize * (((orb &&& ddrb).toNat >>> p.pageLo) % 2 ^ p.pageBits)

/-- `romIndex(addr) = (addr & (PAGE_SIZE - 1)) | ROMOFF` (41_bus_dispatch R156). -/
def romIndex (s : State) (addr : Addr) : Nat := (addr.toNat &&& (s.params.pageSize - 1)) ||| s.romoff

/-! ### The platform's windows (41_bus_dispatch R151) -/

/-- The device-register window (41_bus_dispatch R151). -/
def inDevWindow (p : Params) (addr : Addr) : Bool :=
  decide (p.devBase ≤ addr.toNat) && decide (addr.toNat < p.devBase + p.devSize)

/-- The peripheral-ROM window (41_bus_dispatch R151). -/
def inRomWindow (p : Params) (addr : Addr) : Bool :=
  decide (p.romBase ≤ addr.toNat) && decide (addr.toNat < p.romBase + p.pageSize)

/-- A sample's flags are the window decode of its address (41_bus_dispatch R151). -/
abbrev flagsAgree (p : Params) (b : BusSample) : Prop :=
  b.dev = inDevWindow p b.addr ∧ b.rom = inRomWindow p b.addr ∧ b.sel = (b.dev || b.rom)

/-! ### Coordinates and command operands (30_encoding R89, R90) -/

/-- `lo | (hi << 8)`, that is `{hi, lo}` (00_scope R8). -/
def word16 (hi lo : Byte) : Nat := lo.toNat + 256 * hi.toNat

/-- Bits 7:0 of a coordinate. -/
def loByte (c : Nat) : Byte := BitVec.ofNat 8 c

/-- Bits 15:8 of a coordinate. -/
def hiByte (c : Nat) : Byte := BitVec.ofNat 8 (c >>> 8)

/-- Entry `i` of the parameter buffer (10_state R33). -/
def param (s : State) (i : Nat) : Byte := s.pbuf.getD i 0

/-- Set-position's requested X, `PBUF[3] | (PBUF[2] << 8)` (30_encoding R89). -/
def setPosX (s : State) : Nat := word16 (param s 2) (param s 3)

/-- Set-position's requested Y, `PBUF[1] | (PBUF[0] << 8)` (30_encoding R89). -/
def setPosY (s : State) : Nat := word16 (param s 0) (param s 1)

/-- Set-clamp's requested minimum, `PBUF[3] | (PBUF[1] << 8)` (30_encoding R90, 90_conflicts C7). -/
def clampBoundA (s : State) : Nat := word16 (param s 1) (param s 3)

/-- Set-clamp's requested maximum, `PBUF[2] | (PBUF[0] << 8)` (30_encoding R90, 90_conflicts C7). -/
def clampBoundB (s : State) : Nat := word16 (param s 0) (param s 2)

/-! ### Arithmetic on integers (44_mouse_engine R270, R271) -/

/-- `clamp(v, lo, hi) = min(max(v, lo), hi)` (44_mouse_engine R270). -/
def clamp (v lo hi : Int) : Int := min (max v lo) hi

/-- `satAdd(v, d, lo, hi)`, a movement step that stops at the bound in the direction of travel (44_mouse_engine R271). -/
def satAdd (v d lo hi : Int) : Int :=
  if d > 0 then min (v + d) (max hi v)
  else if d < 0 then max (v + d) (min lo v)
  else v

/-- An integer stored into a coordinate of COORD_W bits; every rule that stores one gives a value that fits
(00_scope R7, log 17). -/
def toCoord (p : Params) (n : Int) : Nat := (n % 2 ^ p.coordW).toNat

/-- A coordinate clamped between two others. -/
def clampCoord (p : Params) (v lo hi : Nat) : Nat := toCoord p (clamp v lo hi)

/-- A coordinate moved by a signed delta, saturating in the direction of travel. -/
def moveCoord (p : Params) (v : Nat) (d : Int) (lo hi : Nat) : Nat := toCoord p (satAdd v d lo hi)

/-- A time stored in RDEADLINE's TIME_W bits; it fits by the no-wrap premise (44_mouse_engine R279). -/
def toTime (p : Params) (n : Nat) : Nat := n % 2 ^ p.timeW

/-- The bounds that set clamp stores: an inverted pair becomes 0 and the floor of the exact average (43_commands R226,
90_conflicts C8). -/
def clampBounds (a b : Nat) : Nat × Nat := if a > b then (0, (a + b) / 2) else (a, b)

end Sys2Proof.Machine
end

