-- ==== Sys2Proof/Machine/Ops.lean ====
section
/-!
DEFINITION. The named operations over the ROM image, the registers, the reply buffer, the interrupt line and the
detector, which the meanings of the instructions are built from.
-/

namespace Sys2Proof.Machine

/-! ### The ROM image (10_state R49): a canonical list over the free value ROM_IMAGE -/

/-- What a ROM byte that the list does not hold reads as: its byte of ROM_IMAGE (70_reset R349, log 4). -/
def Memory.unlisted (a : Nat) : Byte := Config.romImage a

/-- One byte of the ROM image. -/
def Memory.read : List Host.Cell → Nat → Byte
  | [], a => Memory.unlisted a
  | (k, w) :: rest, a => if k = a then w else Memory.read rest a

/-- The ROM image with one byte stored, in the canonical form. -/
def Memory.write : List Host.Cell → Nat → Byte → List Host.Cell
  | [], a, v => if v = Memory.unlisted a then [] else [(a, v)]
  | (k, w) :: rest, a, v =>
    if k < a then (k, w) :: Memory.write rest a v
    else if k = a then (if v = Memory.unlisted a then rest else (a, v) :: rest)
    else if v = Memory.unlisted a then (k, w) :: rest
    else (a, v) :: (k, w) :: rest

/-- The canonical form: addresses strictly rising, and no byte equal to what an unlisted address reads as. -/
abbrev Memory.wf (m : List Host.Cell) : Prop :=
  (m.map Prod.fst).Pairwise (· < ·) ∧ ∀ c ∈ m, c.2 ≠ Memory.unlisted c.1

/-- Every listed byte lies in the image 0..size-1. -/
abbrev Memory.inside (m : List Host.Cell) (size : Nat) : Prop := ∀ c ∈ m, c.1 < size

/-! ### Register reads (40_pia_registers R123, R125, R127, R129): no side effect (20_memory R63) -/

/-- A read at select 0 (40_pia_registers R123). -/
def regRead0 (s : State) : Byte := if selOr s.cra then portA s else s.ddra

/-- A read at select 1 (R125). -/
def regRead1 (s : State) : Byte := crByte s.cra

/-- A read at select 2 (R127). -/
def regRead2 (s : State) : Byte := if selOr s.crb then portB s else s.ddrb

/-- A read at select 3 (R129). -/
def regRead3 (s : State) : Byte := crByte s.crb

/-! ### Register writes (40_pia_registers R122, R124, R126, R128) -/

/-- A write at select 0 (40_pia_registers R122). -/
def regWrite0 (d : Byte) (s : State) : State := if selOr s.cra then { s with ora := d } else { s with ddra := d }

/-- A write at select 1 (R124). -/
def regWrite1 (d : Byte) (s : State) : State := { s with cra := crStored d }

/-- ROMOFF recomputed from ORB and DDRB (R126, 41_bus_dispatch R161). -/
def recomputeRomoff (s : State) : State := { s with romoff := romPageOffset s.params s.orb s.ddrb }

/-- A write at select 2, with the recomputation of ROMOFF in the same step (R126). -/
def regWrite2 (d : Byte) (s : State) : State :=
  recomputeRomoff (if selOr s.crb then { s with orb := d } else { s with ddrb := d })

/-- A write at select 3 (R128). -/
def regWrite3 (d : Byte) (s : State) : State := { s with crb := crStored d }

/-- Is this register write the sentinel write? (41_bus_dispatch R154) -/
def isSentinel (p : Params) (addr : Addr) (d : Byte) : Bool :=
  match p.debugPath with
  | none => false
  | some dbg => (addr.extractLsb' 0 4).toNat == dbg.offset && d == dbg.sentinel

/-- The sentinel write sets DBGWE; nothing clears it (41_bus_dispatch R154). -/
def debugLatch (addr : Addr) (d : Byte) (s : State) : State :=
  if isSentinel s.params addr d then { s with dbgwe := true } else s

/-! ### Reset (70_reset_and_hazards R341) -/

/-- `Reinitialize()` (70_reset_and_hazards R341): the RegisterBank, the ProtocolState, the MouseState and IRQ to their
reset values; DBGWE, ROM and RSTATE stay. -/
def reinit (s : State) : State :=
  { s with
    ddra := 0, ora := 0, cra := 0, ina := 0
    ddrb := 0, orb := 0, crb := 0, inb := 0
    romoff := romPageOffset s.params 0 0
    cmd := 0, pcnt := 0, pbuf := List.replicate s.params.pbufN 0
    rbuf := List.replicate s.params.rbufN 0
    rcnt := 0, pbsnap := 0
    x := 0, y := 0, px := 0, py := 0
    btn0 := false, btn1 := false, pbtn0 := false, pbtn1 := false
    mode := 0, moved := false, causeMove := false, causeBtn := false, causeRef := false
    minx := 0, maxx := s.params.clampMaxDefault, miny := 0, maxy := s.params.clampMaxDefault
    rinterval := s.params.intervalReset, rdeadline := none
    irq := false }

/-- `detectorStep(a)`: one sample's address against the reset fingerprint; a mismatch is not examined again
(70_reset_and_hazards R344, R345). -/
def detectorStep (a : Addr) (s : State) : State :=
  match s.rstate with
  | .waitLow => if a = s.params.rvLo then { s with rstate := .waitHigh } else s
  | .waitHigh => { s with rstate := if a = s.params.rvHi then .waitEntry else .waitLow }
  | .waitEntry => { (if a = s.params.resetEntry then reinit s else s) with rstate := .waitLow }

/-! ### The end of a step -/

/-- The end of a Sampler step: the answer computed by the dispatch, then the detector (41_bus_dispatch R150, R160). -/
def endSample (addr : Addr) (answer : Option Byte) (s : State) : State :=
  detectorStep addr { s with out := answer }

/-- A Service or Environment action outputs nothing (00_scope R9). -/
def quiet (s : State) : State := { s with out := none }

/-! ### Interrupt line (44_mouse_engine R277, R278). The block has no exception entry (60_exceptions R310, R315):
asserting IRQ is all it does, and SERVE's clearing is the return (R316). -/

/-- `irqEdge(before)`: IRQ is asserted when a cause is set now and none was before the step (44_mouse_engine R277). -/
def irqEdge (before : Bool) (s : State) : State :=
  if !before && anyCause s then { s with irq := true } else s

/-- The end of an interrupt: the three causes cleared and IRQ deasserted (43_commands R222, 60_exceptions R316). -/
def serveInterrupt (s : State) : State :=
  { s with causeMove := false, causeBtn := false, causeRef := false, irq := false }

/-! ### Replies (42_protocol R182, R183, R187) -/

/-- The byte exposed to the host: `RBUF[RCNT - 1]`, or 0 with nothing pending (42_protocol R183). -/
def exposedByte (s : State) : Byte :=
  if s.rcnt = 0 then 0 else s.rbuf.getD (s.rcnt - 1) 0

/-- `expose()`: the pending reply byte placed in INA (42_protocol R183). -/
def expose (s : State) : State := { s with ina := exposedByte s }

/-- `readAck()`: the read-acknowledge edge; RCNT saturates at 0 (42_protocol R182). -/
def readAck (s : State) : State :=
  if s.rcnt = 0 then s else expose { s with rcnt := s.rcnt - 1 }

/-- `stageReply(r[0..k-1])`: a reply replaces whatever was pending; the entries above it stay (42_protocol R187). -/
def stageReply (r : List Byte) (s : State) : State :=
  expose { s with rbuf := r ++ s.rbuf.drop r.length, rcnt := r.length }

/-! ### The sequencer (42_protocol R185) -/

/-- `acceptByte(b)`: a parameter byte, or a new command byte when idle; answers the command that is now complete, for
the poll to execute (42_protocol R185). -/
def acceptByte (b : Byte) (s : State) : State × Option Byte :=
  if s.pcnt.val = 0 then
    ({ s with cmd := b, pcnt := paramCount b }, if (paramCount b).val = 0 then some b else none)
  else
    ({ s with pbuf := s.pbuf.set (s.pcnt.val - 1) b, pcnt := ⟨s.pcnt.val - 1, by omega⟩ },
      if s.pcnt.val - 1 = 0 then some s.cmd else none)

/-- The bits of port B that rose since the last poll (42_protocol R181). -/
def risen (s : State) : Byte := portB s &&& ~~~s.pbsnap

/-- A byte with the bits of a list set. -/
def bitMask : List Nat → Byte
  | [] => 0
  | j :: js => (1#8 <<< j) ||| bitMask js

/-- The poll's part in HS_FEEDBACK: nothing where it is none, else each of its bits of INB becomes a free value and the
other bits stay (42_protocol R192, log 6). -/
def driveFeedback (s : State) : State :=
  if s.params.hsFeedback.isEmpty then s
  else
    { s with
      inb := (s.inb &&& ~~~bitMask s.params.hsFeedback) ||| (Config.feedback s.drawn &&& bitMask s.params.hsFeedback)
      drawn := s.drawn + 1 }

/-- The poll up to the delivered byte: the snapshot, the acknowledge edge first, then the write-request edge with port
A as it stood when the poll began (42_protocol R180). -/
def pollHandshake (s : State) : State × Option Byte :=
  let seen := driveFeedback { s with pbsnap := portB s }
  let acked := if (risen s).getLsbD s.params.rackBit then readAck seen else seen
  if (risen s).getLsbD s.params.wreqBit then acceptByte (portA s) acked else (acked, none)

end Sys2Proof.Machine
end

