-- ==== Sys2Proof/Machine/Bus.lean ====
section
/-!
DEFINITION. The bus samples: register accesses, ROM window, and samples outside both windows (40_pia_registers,
41_bus_dispatch). Each ends with the detector's look at the address.
-/

namespace Sys2Proof.Machine

open Host (Outcome)

/-- BUS_W_R0 (40_pia_registers R122, 41_bus_dispatch R154). -/
def execBusWR0 (_rom : Bool) (addr : Addr) (d : Byte) (s : State) : Outcome State Fault Refusal :=
  .next (endSample addr none (debugLatch addr d (regWrite0 d s)))

/-- BUS_R_R0 (R123, R153). -/
def execBusRR0 (_rom : Bool) (addr : Addr) (s : State) : Outcome State Fault Refusal :=
  .next (endSample addr (some (regRead0 s)) s)

/-- BUS_W_R1 (R124, R154). -/
def execBusWR1 (_rom : Bool) (addr : Addr) (d : Byte) (s : State) : Outcome State Fault Refusal :=
  .next (endSample addr none (debugLatch addr d (regWrite1 d s)))

/-- BUS_R_R1 (R125, R153). -/
def execBusRR1 (_rom : Bool) (addr : Addr) (s : State) : Outcome State Fault Refusal :=
  .next (endSample addr (some (regRead1 s)) s)

/-- BUS_W_R2 (R126, R154). -/
def execBusWR2 (_rom : Bool) (addr : Addr) (d : Byte) (s : State) : Outcome State Fault Refusal :=
  .next (endSample addr none (debugLatch addr d (regWrite2 d s)))

/-- BUS_R_R2 (R127, R153). -/
def execBusRR2 (_rom : Bool) (addr : Addr) (s : State) : Outcome State Fault Refusal :=
  .next (endSample addr (some (regRead2 s)) s)

/-- BUS_W_R3 (R128, R154). -/
def execBusWR3 (_rom : Bool) (addr : Addr) (d : Byte) (s : State) : Outcome State Fault Refusal :=
  .next (endSample addr none (debugLatch addr d (regWrite3 d s)))

/-- BUS_R_R3 (R129, R153). -/
def execBusRR3 (_rom : Bool) (addr : Addr) (s : State) : Outcome State Fault Refusal :=
  .next (endSample addr (some (regRead3 s)) s)

/-- BUS_R_ROM: the block drives `ROM[romIndex(addr)]` (41_bus_dispatch R157). -/
def execBusRRom (addr : Addr) (s : State) : Outcome State Fault Refusal :=
  if romIndex s addr < s.params.romSize then
    .next (endSample addr (some (Memory.read s.rom (romIndex s addr))) s)
  else .fault .romOutsideImage

/-- BUS_W_ROM: silent and without effect unless the debug path is there and its latch is set (41_bus_dispatch R158). -/
def execBusWRom (addr : Addr) (d : Byte) (s : State) : Outcome State Fault Refusal :=
  if s.params.debugPresent && s.dbgwe then
    if romIndex s addr < s.params.romSize then
      .next (endSample addr none { s with rom := Memory.write s.rom (romIndex s addr) d })
    else .fault .romOutsideImage
  else .next (endSample addr none s)

/-- BUS_UNSEL: nothing but the detector (41_bus_dispatch R159). -/
def execBusUnsel (_rom _dev _rw : Bool) (addr : Addr) (s : State) : Outcome State Fault Refusal :=
  .next (endSample addr none s)

/-- BUS_SEL_NOWIN: nothing but the detector (41_bus_dispatch R159; log 7). -/
def execBusSelNowin (_rw : Bool) (addr : Addr) (s : State) : Outcome State Fault Refusal :=
  .next (endSample addr none s)

end Sys2Proof.Machine
end

