-- ==== Sys2Proof/Machine/Commands.lean ====
section
/-!
DEFINITION. The sixteen commands of 43_commands, as `execute` applies them inside a protocol poll. A command writes
only what its rule names.
-/

namespace Sys2Proof.Machine

open Host (Outcome)

/-- SETMODE (43_commands R220). -/
def execSetMode (m : BitVec 4) (s : State) : Outcome State Fault Refusal := .next { s with mode := m }

/-- The five reply bytes of read status, in buffer order (30_encoding R94, 90_conflicts C5). -/
def statusReply (s : State) : List Byte := [statusByte s, hiByte s.y, loByte s.y, hiByte s.x, loByte s.x]

/-- READSTATUS: the reply is assembled before the latch clears and the copies are made (43_commands R221). -/
def execReadStatus (_sub : BitVec 4) (s : State) : Outcome State Fault Refusal :=
  .next { stageReply (statusReply s) s with
    moved := false, px := s.x, py := s.y, pbtn0 := s.btn0, pbtn1 := s.btn1 }

/-- SERVE: the reply masks the moved bit off; causes and IRQ are cleared whatever the mode (43_commands R222). -/
def execServe (_sub : BitVec 4) (s : State) : Outcome State Fault Refusal :=
  .next (serveInterrupt (stageReply [statusByte s &&& 0xDF] s))

/-- CLEARPOS: no clamping (43_commands R223). -/
def execClearPos (_sub : BitVec 4) (s : State) : Outcome State Fault Refusal := .next { s with x := 0, y := 0 }

/-- SETPOS: the requested position clamped into the rectangle, to current and previous alike (43_commands R224). -/
def execSetPos (_sub : BitVec 4) (s : State) : Outcome State Fault Refusal :=
  let nx := clampCoord s.params (setPosX s) s.minx s.maxx
  let ny := clampCoord s.params (setPosY s) s.miny s.maxy
  .next { s with x := nx, y := ny, px := nx, py := ny }

/-- The position at the rectangle's minimum corner (43_commands R227). -/
def homePosition (s : State) : State := { s with x := s.minx, y := s.miny, px := s.minx, py := s.miny }

/-- INIT: default rectangle, timer unarmed, home position, IRQ deasserted (43_commands R225). -/
def execInit (_sub : BitVec 4) (s : State) : Outcome State Fault Refusal :=
  .next { homePosition
      { s with minx := 0, maxx := s.params.clampMaxDefault, miny := 0, maxy := s.params.clampMaxDefault,
               rdeadline := none } with
    irq := false }

/-- The current position clamped into the current rectangle, both axes (43_commands R226). -/
def reclamp (s : State) : State :=
  { s with x := clampCoord s.params s.x s.minx s.maxx, y := clampCoord s.params s.y s.miny s.maxy }

/-- SETCLAMP (43_commands R226). -/
def execSetClamp (_sub : BitVec 3) (axisY : Bool) (s : State) : Outcome State Fault Refusal :=
  let bounds := clampBounds (clampBoundA s) (clampBoundB s)
  let lo := toCoord s.params bounds.1
  let hi := toCoord s.params bounds.2
  .next (reclamp (if axisY then { s with miny := lo, maxy := hi } else { s with minx := lo, maxx := hi }))

/-- HOME (43_commands R227). -/
def execHome (_sub : BitVec 4) (s : State) : Outcome State Fault Refusal := .next (homePosition s)

/-- NOP8: no state change (43_commands R228). -/
def execNop8 (_sub : BitVec 4) (s : State) : Outcome State Fault Refusal := .next s

/-- SETTIMING: the refresh interval; an armed deadline stays (43_commands R229). -/
def execSetTiming (_count : BitVec 2) (_ignored : Bool) (hz50 : Bool) (s : State) : Outcome State Fault Refusal :=
  .next { s with rinterval := if hz50 then s.params.interval50 else s.params.interval60 }

/-- VENDOR: its parameter byte is already consumed; no state change (43_commands R230). -/
def execVendor (_sub : BitVec 4) (s : State) : Outcome State Fault Refusal := .next s

/-- NOPB: no state change (43_commands R231). -/
def execNopB (_sub : BitVec 4) (s : State) : Outcome State Fault Refusal := .next s

/-- NOPC: no state change (43_commands R232). -/
def execNopC (_sub : BitVec 4) (s : State) : Outcome State Fault Refusal := .next s

/-- NOPD: no state change (43_commands R233). -/
def execNopD (_sub : BitVec 4) (s : State) : Outcome State Fault Refusal := .next s

/-- NOPE: no state change (43_commands R234). -/
def execNopE (_sub : BitVec 4) (s : State) : Outcome State Fault Refusal := .next s

/-- NOPF: no state change (43_commands R235). -/
def execNopF (_sub : BitVec 4) (s : State) : Outcome State Fault Refusal := .next s

/-- `execute(c)`: the rule of the command byte's opcode (42_protocol R186, 30_encoding R86). -/
def execute (c : Byte) (s : State) : Outcome State Fault Refusal :=
  match (opcode c).toNat with
  | 0x0 => execSetMode (subMode c) s
  | 0x1 => execReadStatus (subMode c) s
  | 0x2 => execServe (subMode c) s
  | 0x3 => execClearPos (subMode c) s
  | 0x4 => execSetPos (subMode c) s
  | 0x5 => execInit (subMode c) s
  | 0x6 => execSetClamp (c.extractLsb' 1 3) (c.getLsbD 0) s
  | 0x7 => execHome (subMode c) s
  | 0x8 => execNop8 (subMode c) s
  | 0x9 => execSetTiming (c.extractLsb' 2 2) (c.getLsbD 1) (c.getLsbD 0) s
  | 0xA => execVendor (subMode c) s
  | 0xB => execNopB (subMode c) s
  | 0xC => execNopC (subMode c) s
  | 0xD => execNopD (subMode c) s
  | 0xE => execNopE (subMode c) s
  | _ => execNopF (subMode c) s

end Sys2Proof.Machine
end

