-- ==== Sys2Proof/Machine/Environment.lean ====
section
/-!
DEFINITION. The Environment actions (41_bus_dispatch R163, 70_reset_and_hazards R340, R341), and the platform that
writes bus samples (41_bus_dispatch R151) with the notation W, R, SEND, RECV (30_encoding R97).
-/

namespace Sys2Proof.Machine

open Host (Outcome)

/-- SetInput: an outside writer of an input latch (41_bus_dispatch R163). -/
def execSetInput (port : Port) (v : Byte) (s : State) : Outcome State Fault Refusal :=
  match port with
  | .A => .next { quiet s with ina := v }
  | .B => .next { quiet s with inb := v }

/-- Reinitialize, called from outside (70_reset_and_hazards R340, R341). -/
def execReinitialize (s : State) : Outcome State Fault Refusal := .next (reinit (quiet s))

/-! ### The platform -/

/-- A sample as the platform writes it, its flags from the windows (41_bus_dispatch R151). -/
def platformSample (p : Params) (rw : Bool) (addr : Addr) (data : Byte) : Stimulus :=
  .sample (sampleWord (inDevWindow p addr || inRomWindow p addr) (inRomWindow p addr) (inDevWindow p addr) rw addr) data

/-- `W a, v` (30_encoding R97). -/
def busWrite (p : Params) (addr : Addr) (v : Byte) : Stimulus := platformSample p false addr v

/-- `R a` (30_encoding R97). -/
def busRead (p : Params) (addr : Addr) : Stimulus := platformSample p true addr 0

/-- The bus address of device register `k`, `DEV_BASE + k` (60_exceptions R320). -/
def devReg (p : Params) (k : Nat) : Addr := BitVec.ofNat 16 (p.devBase + k)

/-- Bit `i` of a byte alone. -/
def oneBit (i : Nat) : Byte := 1#8 <<< i

/-- `SEND b` with the port-B value `q` held between handshakes (30_encoding R97). -/
def sendByte (p : Params) (q b : Byte) : List Stimulus :=
  [busWrite p (devReg p 0) b, busWrite p (devReg p 2) (q ||| oneBit p.wreqBit), .protoPoll,
   busWrite p (devReg p 2) q, .protoPoll]

/-- `RECV` with the port-B value `q` held between handshakes (30_encoding R97). -/
def receiveByte (p : Params) (q : Byte) : List Stimulus :=
  [busRead p (devReg p 0), busWrite p (devReg p 2) (q ||| oneBit p.rackBit), .protoPoll,
   busWrite p (devReg p 2) q, .protoPoll]

/-- The boot order of 70_reset_and_hazards R348 for sending, with the direction byte `ddrb` of port B: setup S0 of
95_test_vectors when `ddrb` is 0x3E. -/
def bootPia (p : Params) (ddrb : Byte) : List Stimulus :=
  [busWrite p (devReg p 1) 0x00, busWrite p (devReg p 0) 0xFF, busWrite p (devReg p 1) 0x04,
   busWrite p (devReg p 3) 0x00, busWrite p (devReg p 2) ddrb, busWrite p (devReg p 3) 0x04,
   busWrite p (devReg p 2) 0x00, .protoPoll]

end Sys2Proof.Machine
end

