-- ==== Sys2Proof/Machine/Service.lean ====
section
/-!
DEFINITION. The Service actions: the protocol poll (42_protocol R180) and the mouse engine's movement, button and
refresh reports (44_mouse_engine R273, R275, R276).
-/

namespace Sys2Proof.Machine

open Host (Outcome)

/-- A completed command, if there is one, executed in the same step (42_protocol R185, R186). -/
def finishPoll (r : State × Option Byte) : Outcome State Fault Refusal :=
  match r.2 with
  | some c => execute c r.1
  | none => .next r.1

/-- ProtoPoll: the handshake edges, the byte delivered, and the command it completes (42_protocol R180). -/
def execProtoPoll (s : State) : Outcome State Fault Refusal := finishPoll (pollHandshake (quiet s))

/-- The position after a movement report (44_mouse_engine R273). -/
def movedTo (dx dy : Int) (s : State) : State :=
  { s with x := moveCoord s.params s.x dx s.minx s.maxx, y := moveCoord s.params s.y dy s.miny s.maxy }

/-- The latches of a movement report that changed the position (44_mouse_engine R273, R274). -/
def latchMove (before : State) (s : State) : State :=
  if s.x ≠ before.x ∨ s.y ≠ before.y then
    { s with moved := true, causeMove := s.causeMove || moveIE s }
  else s

/-- Move: a movement report, whatever MODE[0] is (44_mouse_engine R273). Deltas outside a signed byte are not admitted
(60_exceptions R311). -/
def execMove (dx dy : Int) (s : State) : Outcome State Fault Refusal :=
  if signedByte dx ∧ signedByte dy then
    .next (irqEdge (anyCause s) (latchMove s (movedTo dx dy (quiet s))))
  else .refused .moveOutsideSignedByte

/-- The button's current state written (44_mouse_engine R275). -/
def setButton (i : Nat) (p : Bool) (s : State) : State :=
  if i = 0 then { s with btn0 := p } else { s with btn1 := p }

/-- Button: a button report; every report sets the cause while it is enabled (44_mouse_engine R275). An index other than
0 and 1 is not admitted (60_exceptions R311). -/
def execButton (i : Nat) (p : Bool) (s : State) : Outcome State Fault Refusal :=
  if i ≤ 1 then
    let t := setButton i p (quiet s)
    .next (irqEdge (anyCause s) { t with causeBtn := t.causeBtn || btnIE t })
  else .refused .buttonIndexOutside

/-- The refresh timer at `now`: cleared while disabled, armed, or fired and advanced by one interval
(44_mouse_engine R276). -/
def refreshTimer (now : Nat) (s : State) : State :=
  if !refIE s then { s with rdeadline := none }
  else
    match s.rdeadline with
    | none => { s with rdeadline := some (toTime s.params (now + s.rinterval)) }
    | some d =>
      if d ≤ now then { s with causeRef := true, rdeadline := some (toTime s.params (d + s.rinterval)) } else s

/-- RefreshPoll (44_mouse_engine R276). A time that wraps, or that is before an earlier one, is not admitted
(R279, 60_exceptions R311). -/
def execRefreshPoll (now : Nat) (s : State) : Outcome State Fault Refusal :=
  if ¬ timeInRange s.params now then .refused .timeOutOfRange
  else if now < s.lastNow then .refused .timeNotMonotonic
  else .next (irqEdge (anyCause s) (refreshTimer now { quiet s with lastNow := now }))

end Sys2Proof.Machine
end

