-- ==== Sys2Proof/Machine/Dispatch.lean ====
section
/-!
DEFINITION. exec: one arm per constructor of Instr, each one call of its meaning.
-/

namespace Sys2Proof.Machine

open Host (Outcome)

def exec (i : Instr) (s : State) : Host.Outcome State Fault Refusal :=
  match i with
  | .busWR0 rom addr d => Sys2Proof.Machine.execBusWR0 rom addr d s
  | .busRR0 rom addr => Sys2Proof.Machine.execBusRR0 rom addr s
  | .busWR1 rom addr d => Sys2Proof.Machine.execBusWR1 rom addr d s
  | .busRR1 rom addr => Sys2Proof.Machine.execBusRR1 rom addr s
  | .busWR2 rom addr d => Sys2Proof.Machine.execBusWR2 rom addr d s
  | .busRR2 rom addr => Sys2Proof.Machine.execBusRR2 rom addr s
  | .busWR3 rom addr d => Sys2Proof.Machine.execBusWR3 rom addr d s
  | .busRR3 rom addr => Sys2Proof.Machine.execBusRR3 rom addr s
  | .busRRom addr => Sys2Proof.Machine.execBusRRom addr s
  | .busWRom addr d => Sys2Proof.Machine.execBusWRom addr d s
  | .busUnsel rom dev rw addr => Sys2Proof.Machine.execBusUnsel rom dev rw addr s
  | .busSelNowin rw addr => Sys2Proof.Machine.execBusSelNowin rw addr s
  | .setMode m => Sys2Proof.Machine.execSetMode m s
  | .readStatus sub => Sys2Proof.Machine.execReadStatus sub s
  | .serve sub => Sys2Proof.Machine.execServe sub s
  | .clearPos sub => Sys2Proof.Machine.execClearPos sub s
  | .setPos sub => Sys2Proof.Machine.execSetPos sub s
  | .init sub => Sys2Proof.Machine.execInit sub s
  | .setClamp sub axisY => Sys2Proof.Machine.execSetClamp sub axisY s
  | .home sub => Sys2Proof.Machine.execHome sub s
  | .nop8 sub => Sys2Proof.Machine.execNop8 sub s
  | .setTiming count ignored hz50 => Sys2Proof.Machine.execSetTiming count ignored hz50 s
  | .vendor sub => Sys2Proof.Machine.execVendor sub s
  | .nopB sub => Sys2Proof.Machine.execNopB sub s
  | .nopC sub => Sys2Proof.Machine.execNopC sub s
  | .nopD sub => Sys2Proof.Machine.execNopD sub s
  | .nopE sub => Sys2Proof.Machine.execNopE sub s
  | .nopF sub => Sys2Proof.Machine.execNopF sub s
  | .protoPoll => Sys2Proof.Machine.execProtoPoll s
  | .move dx dy => Sys2Proof.Machine.execMove dx dy s
  | .button index p => Sys2Proof.Machine.execButton index p s
  | .refreshPoll now => Sys2Proof.Machine.execRefreshPoll now s
  | .setInput port v => Sys2Proof.Machine.execSetInput port v s
  | .reinitialize => Sys2Proof.Machine.execReinitialize s

end Sys2Proof.Machine
end

