-- ==== Sys2Proof/Machine/Fetch.lean ====
section
/-!
DEFINITION. What a step runs next, and how an instruction is placed to be the next one. The block fetches no
instruction stream (20_memory R70): a step takes the environment's next action (R66).
-/

namespace Sys2Proof.Machine

/-- Why an action gets no step before its instruction is looked at: a sample whose flags disagree with the windows
(60_exceptions R311, 90_conflicts C12; log 7). The arguments of the other actions are tested by their meanings. -/
def admission (p : Params) : Stimulus → Option Refusal
  | .sample w data => if flagsAgree p (BusSample.ofWord w data) then none else some .sampleFlagsDisagree
  | .protoPoll => none
  | .move _ _ => none
  | .button _ _ => none
  | .refreshPoll _ => none
  | .setInput _ _ => none
  | .reinitialize => none

/-- The next action: its instruction and the state with the action taken off the list, or the refusal of a sample that is
not admitted; none while no action comes (60_exceptions R323; log 1). -/
def fetch (s : State) : Option (Except Refusal (Instr × State)) :=
  match s.inputs with
  | [] => none
  | a :: rest =>
    match admission s.params a with
    | some r => some (.error r)
    | none => some (.ok (decodeStimulus a, { s with inputs := rest }))

/-- The base of a window of `size` addresses that holds `addr` exactly when `inside` says so: `base` where that does it,
else the aligned block of `addr`, or the block just above it. -/
def windowBase (inside : Bool) (base size addr : Nat) : Nat :=
  if (decide (base ≤ addr) && decide (addr < base + size)) = inside then base
  else if inside then addr - addr % size
  else addr + 1

/-- A sample word, its data byte zero, as the next action, under window addresses that give its flags (log 16). -/
def placeSample (word : BitVec 20) (s : State) : State :=
  let b := BusSample.ofWord word 0
  { s with
    params :=
      { s.params with
        devBase := windowBase b.dev s.params.devBase s.params.devSize b.addr.toNat
        romBase := windowBase b.rom s.params.romBase s.params.pageSize b.addr.toNat }
    inputs := .sample word 0 :: s.inputs }

/-- A parameter buffer with the slots 1..k-1 of a command with `k` parameter bytes received as zero (30_encoding R88). -/
def zeroParams (k : Nat) (buf : List Byte) : List Byte := buf.take 1 ++ List.replicate (k - 1) 0 ++ buf.drop k

/-- Command byte `c` with all but its last byte received: idle for a command without parameters, else waiting for its
last parameter byte (42_protocol R185). -/
def almostReceived (c : Byte) (s : State) : State :=
  if (paramCount c).val = 0 then { s with pcnt := 0 }
  else { s with cmd := c, pcnt := 1, pbuf := zeroParams (paramCount c).val s.pbuf }

/-- Byte `b` on port A with the write-request bit of port B risen since the last poll and no other edge, and a poll
to come next (42_protocol R180, R181). -/
def offerByte (b : Byte) (s : State) : State :=
  let bit := 1#8 <<< s.params.wreqBit
  let raised := { s with ddra := 0xFF, ora := b, ddrb := s.ddrb ||| bit, orb := s.orb ||| bit }
  { raised with pbsnap := portB raised &&& ~~~bit, inputs := .protoPoll :: s.inputs }

/-- Command byte `c` (its parameters zero) placed so that the next step, a protocol poll, completes and runs it. -/
def placeCommand (c : Byte) (s : State) : State :=
  offerByte (if (paramCount c).val = 0 then c else 0) (almostReceived c s)

/-- A table row's bits placed as the next instruction: a byte is a command, a wider row a sample word (log 16). -/
def placeWord (nbits w : Nat) (s : State) : State :=
  if nbits ≤ 8 then placeCommand (BitVec.ofNat 8 w) s else placeSample (BitVec.ofNat 20 w) s

end Sys2Proof.Machine
end

