-- ==== Sys2Proof/Machine/Step.lean ====
section
/-!
DEFINITION. One step of the machine: the environment's next action, decoded and executed (20_memory R66).
-/

namespace Sys2Proof.Machine

/-- One step: the next action of `inputs` is taken off, decoded and executed, or refused where R311 does not admit it;
while none comes the block stays as it is (60_exceptions R311, R323; log 1). -/
def step (s : State) : Host.Outcome State Fault Refusal :=
  match fetch s with
  | none => .next s
  | some (.error r) => .refused r
  | some (.ok (i, t)) => exec i t

/-- The state whose next step runs the instruction with the table's bits `w` (log 16). -/
def State.withFetchWord (s : State) (nbits w : Nat) : State := placeWord nbits w s

end Sys2Proof.Machine
end

