-- ==== Sys2Proof/Safety.lean ====
section
/-!
DEFINITION. What claims about the block are stated in: the admitted actions, the invariant, the runs, and the groups
of state that the spec's whole-machine rules speak of.
-/

namespace Sys2Proof.Machine

/-- The actions that 60_exceptions R311 admits in a state. -/
abbrev admits (s : State) : Stimulus → Prop
  | .sample w data => flagsAgree s.params (BusSample.ofWord w data)
  | .protoPoll => True
  | .move dx dy => signedByte dx ∧ signedByte dy
  | .button i _ => i ≤ 1
  | .refreshPoll now => s.lastNow ≤ now ∧ timeInRange s.params now
  | .setInput _ _ => True
  | .reinitialize => True

/-- Every coordinate and clamp bound lies below 2^COORD_W (10_state R37, R38, R44; 00_scope R7). -/
abbrev coordsFit (s : State) : Prop :=
  s.x < 2 ^ s.params.coordW ∧ s.y < 2 ^ s.params.coordW ∧ s.px < 2 ^ s.params.coordW ∧ s.py < 2 ^ s.params.coordW ∧
  s.minx < 2 ^ s.params.coordW ∧ s.maxx < 2 ^ s.params.coordW ∧ s.miny < 2 ^ s.params.coordW ∧
  s.maxy < 2 ^ s.params.coordW

/-- What holds in every state of a run. -/
structure Inv (s : State) : Prop where
  /-- The parameters meet 00_scope R6. -/
  params : s.params.valid
  /-- ROMOFF is never stale (10_state R29, 20_memory R71). -/
  romoff : s.romoff = romPageOffset s.params s.orb s.ddrb
  /-- The clamp rectangle is never inverted (10_state R44). -/
  clampX : s.minx ≤ s.maxx
  clampY : s.miny ≤ s.maxy
  coords : coordsFit s
  /-- Only the counts 0..5 are reachable (10_state R35). -/
  replies : s.rcnt ≤ 5
  /-- The buffers have their PBUF_N and RBUF_N entries (10_state R33, R34). -/
  pbufLength : s.pbuf.length = s.params.pbufN
  rbufLength : s.rbuf.length = s.params.rbufN
  /-- PBUF from entry 4 on keeps its reset value (10_state R33). -/
  pbufTail : ∀ b ∈ s.pbuf.drop 4, b = 0
  /-- RBUF from entry 5 on keeps its reset value (10_state R34). -/
  rbufTail : ∀ b ∈ s.rbuf.drop 5, b = 0
  /-- No more parameters are awaited than the current command has (10_state R32, 42_protocol R185). -/
  awaiting : s.pcnt.val ≤ (paramCount s.cmd).val
  /-- RINTERVAL is one of the fixed intervals (10_state R45). -/
  interval : s.rinterval = s.params.interval50 ∨ s.rinterval = s.params.interval60 ∨
    s.rinterval = s.params.intervalReset
  /-- An armed deadline is at most one interval ahead of the last poll, so it never wraps (44_mouse_engine R279). -/
  deadline : ∀ d ∈ s.rdeadline, d ≤ s.lastNow + 20000
  time : timeInRange s.params s.lastNow
  /-- The line is asserted only while a cause is latched (44_mouse_engine R277, R278). -/
  irqCause : s.irq = true → anyCause s = true
  /-- DBGWE exists only with the debug path (10_state R48). -/
  debug : s.dbgwe = true → s.params.debugPresent = true
  /-- The ROM image's list is in its canonical form, inside the image (10_state R49, log 19). -/
  romForm : Memory.wf s.rom
  romSize : Memory.inside s.rom s.params.romSize

/-- The states of a run: power-on under admissible parameters, an action more that the environment chooses, a step. -/
inductive Reachable : State → Prop where
  | powerOn (p : Params) : p.valid → Reachable (State.powerOn p)
  | choose (s : State) (a : Stimulus) : Reachable s → Reachable { s with inputs := s.inputs ++ [a] }
  | step (s t : State) : Reachable s → step s = .next t → Reachable t

/-- The position lies in the clamp rectangle (44_mouse_engine R281). -/
abbrev inRectangle (s : State) : Prop :=
  s.minx ≤ s.x ∧ s.x ≤ s.maxx ∧ s.miny ≤ s.y ∧ s.y ≤ s.maxy

/-- Two states with the same MouseState and IRQ (10_state R37 to R47). -/
abbrev sameMouse (s t : State) : Prop :=
  t.x = s.x ∧ t.y = s.y ∧ t.px = s.px ∧ t.py = s.py ∧ t.btn0 = s.btn0 ∧ t.btn1 = s.btn1 ∧ t.pbtn0 = s.pbtn0 ∧
  t.pbtn1 = s.pbtn1 ∧ t.mode = s.mode ∧ t.moved = s.moved ∧ t.causeMove = s.causeMove ∧ t.causeBtn = s.causeBtn ∧
  t.causeRef = s.causeRef ∧ t.minx = s.minx ∧ t.maxx = s.maxx ∧ t.miny = s.miny ∧ t.maxy = s.maxy ∧
  t.rinterval = s.rinterval ∧ t.rdeadline = s.rdeadline ∧ t.irq = s.irq

/-- Two states with the same ProtocolState (10_state R31 to R36). -/
abbrev sameProtocol (s t : State) : Prop :=
  t.cmd = s.cmd ∧ t.pcnt = s.pcnt ∧ t.pbuf = s.pbuf ∧ t.rbuf = s.rbuf ∧ t.rcnt = s.rcnt ∧ t.pbsnap = s.pbsnap

/-- Two states with the same RegisterBank but for the input latches (10_state R21 to R29). -/
abbrev sameRegisters (s t : State) : Prop :=
  t.ddra = s.ddra ∧ t.ora = s.ora ∧ t.cra = s.cra ∧ t.ddrb = s.ddrb ∧ t.orb = s.orb ∧ t.crb = s.crb ∧
  t.romoff = s.romoff

/-- Every element that a reinitialisation resets has its "after reinitialise" value (10_state R52), with the clamp
maximum and the refresh interval of the parameters. -/
abbrev isReinitialised (s : State) : Prop :=
  s.ddra = 0 ∧ s.ora = 0 ∧ s.cra = 0 ∧ s.ina = 0 ∧ s.ddrb = 0 ∧ s.orb = 0 ∧ s.crb = 0 ∧ s.inb = 0 ∧ s.romoff = 0 ∧
  s.cmd = 0 ∧ s.pcnt = 0 ∧ s.pbuf = List.replicate s.params.pbufN 0 ∧ s.rbuf = List.replicate s.params.rbufN 0 ∧
  s.rcnt = 0 ∧ s.pbsnap = 0 ∧
  s.x = 0 ∧ s.y = 0 ∧ s.px = 0 ∧ s.py = 0 ∧ s.btn0 = false ∧ s.btn1 = false ∧ s.pbtn0 = false ∧ s.pbtn1 = false ∧
  s.mode = 0 ∧ s.moved = false ∧ s.causeMove = false ∧ s.causeBtn = false ∧ s.causeRef = false ∧
  s.minx = 0 ∧ s.maxx = s.params.clampMaxDefault ∧ s.miny = 0 ∧ s.maxy = s.params.clampMaxDefault ∧
  s.rinterval = s.params.intervalReset ∧ s.rdeadline = none ∧ s.irq = false

/-- An instruction that is a bus sample, and the address it carries. -/
abbrev sampleAddr : Instr → Option Addr
  | .busWR0 _ addr _ => some addr
  | .busRR0 _ addr => some addr
  | .busWR1 _ addr _ => some addr
  | .busRR1 _ addr => some addr
  | .busWR2 _ addr _ => some addr
  | .busRR2 _ addr => some addr
  | .busWR3 _ addr _ => some addr
  | .busRR3 _ addr => some addr
  | .busRRom addr => some addr
  | .busWRom addr _ => some addr
  | .busUnsel _ _ _ addr => some addr
  | .busSelNowin _ addr => some addr
  | .setMode _ => none
  | .readStatus _ => none
  | .serve _ => none
  | .clearPos _ => none
  | .setPos _ => none
  | .init _ => none
  | .setClamp _ _ => none
  | .home _ => none
  | .nop8 _ => none
  | .setTiming _ _ _ => none
  | .vendor _ => none
  | .nopB _ => none
  | .nopC _ => none
  | .nopD _ => none
  | .nopE _ => none
  | .nopF _ => none
  | .protoPoll => none
  | .move _ _ => none
  | .button _ _ => none
  | .refreshPoll _ => none
  | .setInput _ _ => none
  | .reinitialize => none

/-- The sample that completes the reset fingerprint: RESET_ENTRY seen in detector state 2 (70_reset R344). -/
abbrev completesFingerprint (i : Instr) (s : State) : Prop :=
  s.rstate = .waitEntry ∧ sampleAddr i = some s.params.resetEntry

/-- The step reinitialises: the outside call, or the completed fingerprint (70_reset R340). -/
abbrev reinitialises (i : Instr) (s : State) : Prop := i = .reinitialize ∨ completesFingerprint i s

/-- The command byte a protocol poll completes, if any: a write-request edge brings an idle sequencer a command
without parameters, or a waiting one its last parameter (42_protocol R185). -/
def completedCommand (s : State) : Option Byte :=
  if (risen s).getLsbD s.params.wreqBit then
    if s.pcnt.val = 0 then (if (paramCount (portA s)).val = 0 then some (portA s) else none)
    else if s.pcnt.val = 1 then some s.cmd else none
  else none

/-- A poll's snapshot, read acknowledge and feedback bits, before any byte is delivered: with an acknowledge edge and a
reply pending one byte less is pending, and the next one, or 0 after the last, is in INA (42_protocol R180, R182, R183);
INB stays unless HS_FEEDBACK names bits, which then hold a free value (R192, log 6). -/
def afterAcknowledge (s : State) : State :=
  { s with
    pbsnap := portB s
    out := none
    rcnt := if (risen s).getLsbD s.params.rackBit then s.rcnt - 1 else s.rcnt
    ina :=
      if (risen s).getLsbD s.params.rackBit = true ∧ s.rcnt ≠ 0 then
        (if s.rcnt = 1 then 0 else s.rbuf.getD (s.rcnt - 2) 0)
      else s.ina
    inb := (driveFeedback s).inb
    drawn := (driveFeedback s).drawn }

/-- The four device-register writes at an address. -/
abbrev deviceWrites (rom : Bool) (addr : Addr) (d : Byte) : List Instr :=
  [.busWR0 rom addr d, .busWR1 rom addr d, .busWR2 rom addr d, .busWR3 rom addr d]

/-- Command byte opcode `op` runs in this step: as the instruction itself, or inside the poll that completes it. -/
def runsOpcode (op : BitVec 4) (i : Instr) (s : State) : Prop :=
  (∃ c, opcode c = op ∧ i = decodeCommand c) ∨ (i = .protoPoll ∧ ∃ c ∈ completedCommand s, opcode c = op)

end Sys2Proof.Machine
end

