-- ==== Sys2Proof/Certificates/Slice0/Obligations.lean ====
section
/-!
DEFINITION. The statements about the model, for the provers. Each docstring names the rule of spec/ it comes from.
-/

open Sys2Proof Sys2Proof.Machine
open Host (Outcome)

/-! ### Encodings -/

/-- Decoding what the encoder writes for a well-formed instruction gives it back, every operand at every value its
encoding admits (30_encoding R81, R82, R85, R86). -/
def Obligations.DecodeEncodeRoundTrip : Prop :=
  ∀ i : Instr, i.wellFormed → decode (encode i) = i

/-- What the decoder reads is well-formed, and encoding it gives the word back; the data byte too, where the sample is a
write that a window takes (30_encoding R80, R81, R85, R95). -/
def Obligations.EncodeDecodeRoundTrip : Prop :=
  (∀ (w : BitVec 20) (data : Byte), (decodeSample w data).wellFormed ∧
    ∃ data', encode (decodeSample w data) = .stimulus (.sample w data') ∧
      (classify (BusSample.ofWord w data) ≠ .none → w.getLsbD 16 = false → data' = data)) ∧
  ∀ c : Byte, (decodeCommand c).wellFormed ∧ encode (decodeCommand c) = .command c

/-- Every sample word and every command byte has the fixed bits of exactly one row of opcode_table.json, and that row is
the one the decoder reads (30_encoding R95). -/
def Obligations.EveryWordInExactlyOneRow : Prop :=
  (∀ (w : BitVec 20) (data : Byte),
    (sampleRows.filter (·.covers w)).map Row.mnemonic = [(decodeSample w data).mnemonic]) ∧
  ∀ c : Byte, (commandRows.filter (·.covers c)).map Row.mnemonic = [(decodeCommand c).mnemonic]

/-- Words written out from 30_encoding R81, R86 and 95_test_vectors decode to what they stand for. -/
def Obligations.WrittenWordsDecode : Prop :=
  decodeSample 0xAC0C2 0x06 = .busWR2 false 0xC0C2 0x06 ∧
  decodeSample 0xBC0C0 0 = .busRR0 false 0xC0C0 ∧
  decodeSample 0xDC417 0 = .busRRom 0xC417 ∧
  decodeSample 0xCC400 0x12 = .busWRom 0xC400 0x12 ∧
  decodeSample 0x1FFFC 0 = .busUnsel false false true 0xFFFC ∧
  decodeSample 0x8C0D0 0 = .busSelNowin false 0xC0D0 ∧
  decodeCommand 0x0B = .setMode 0xB ∧
  decodeCommand 0x61 = .setClamp 0 true ∧
  decodeCommand 0x95 = .setTiming 1 false true

/-- The parameter count of a command byte (30_encoding R87), and a command is that byte and so many more, whatever they
are and whatever follows (30_encoding R96); that a list of bytes with fewer is rejected by name, and how, is the model's
choice (log 18). -/
def Obligations.CommandLength : Prop :=
  ∀ (c : Byte) (ps rest : List Byte),
    ((paramCount c).val =
      if c.extractLsb' 4 4 = 0x4 ∨ c.extractLsb' 4 4 = 0x6 then 4
      else if c.extractLsb' 4 4 = 0x9 then (c.extractLsb' 2 2).toNat
      else if c.extractLsb' 4 4 = 0xA then 1
      else 0) ∧
    (ps.length = (paramCount c).val →
      decodeCommandBytes (c :: (ps ++ rest)) = .ok (decodeCommand c, ps, rest)) ∧
    (ps.length < (paramCount c).val → decodeCommandBytes (c :: ps) = .error .parametersMissing)

/-! ### The step -/

/-- A step takes the environment's next action off the list and executes its instruction, but a sample whose flags
disagree with the windows gets no step; while there is no action the state stays (20_memory R66, 60_exceptions R311; the
list and the idle step are the model's own, log 1). -/
def Obligations.StepRunsNextAction : Prop :=
  ∀ s : State,
    (∀ a rest, s.inputs = a :: rest → (∀ w data, a = .sample w data → flagsAgree s.params (BusSample.ofWord w data)) →
      step s = exec (decodeStimulus a) { s with inputs := rest }) ∧
    (∀ w data rest, s.inputs = .sample w data :: rest → ¬ flagsAgree s.params (BusSample.ofWord w data) →
      step s = .refused .sampleFlagsDisagree) ∧
    (s.inputs = [] → step s = .next s)

/-- Every admitted action completes from every state with the invariant (60_exceptions R310, R311). -/
def Obligations.AdmittedActionsComplete : Prop :=
  ∀ (s : State) (a : Stimulus) (rest : List Stimulus), Inv s → s.inputs = a :: rest → admits s a →
    ∃ t, step s = .next t

/-- Every sample's meaning completes, whatever its flags, in every state with the invariant (41_bus_dispatch R162); which
samples a step takes is StepRunsNextAction's. -/
def Obligations.EverySampleCompletes : Prop :=
  ∀ (s : State) (w : BitVec 20) (data : Byte), Inv s → ∃ t, exec (decodeSample w data) s = .next t

/-! ### PIA registers (40_pia_registers) -/

/-- BUS_W_R0: ORA or DDRA, by bit 2 of CRA (R122); nothing else but the debug latch (spec decision D18, log 13), the
detector after the dispatch (D29, D30), and nothing driven (D34, log 10). -/
def Obligations.WriteSelect0 : Prop :=
  ∀ (rom : Bool) (addr : Addr) (d : Byte) (s : State),
    exec (.busWR0 rom addr d) s = .next (detectorStep addr
      { s with
        ora := if s.cra.getLsbD 2 then d else s.ora
        ddra := if s.cra.getLsbD 2 then s.ddra else d
        dbgwe := s.dbgwe || isSentinel s.params addr d
        out := none })

/-- BUS_W_R1 and BUS_W_R3: the control register's low six bits (R124, R128; held as six, log 14); nothing else but the
debug latch (spec decision D18, log 13) and the detector (D29, D30). -/
def Obligations.WriteControlRegisters : Prop :=
  ∀ (rom : Bool) (addr : Addr) (d : Byte) (s : State),
    exec (.busWR1 rom addr d) s = .next (detectorStep addr
      { s with cra := (d &&& 0x3F).setWidth 6, dbgwe := s.dbgwe || isSentinel s.params addr d, out := none }) ∧
    exec (.busWR3 rom addr d) s = .next (detectorStep addr
      { s with crb := (d &&& 0x3F).setWidth 6, dbgwe := s.dbgwe || isSentinel s.params addr d, out := none })

/-- BUS_W_R2: ORB or DDRB, by bit 2 of CRB, and in the same step ROMOFF, PAGE_SIZE times the page field of the bits that
port B then drives (R126, 41_bus_dispatch R155); nothing else but the debug latch (spec decision D18, log 13) and the
detector (D29, D30). That the page is a field of ORB & DDRB is D14. -/
def Obligations.WriteSelect2 : Prop :=
  ∀ (rom : Bool) (addr : Addr) (d : Byte) (s : State),
    exec (.busWR2 rom addr d) s = .next (detectorStep addr
      { s with
        orb := if s.crb.getLsbD 2 then d else s.orb
        ddrb := if s.crb.getLsbD 2 then s.ddrb else d
        romoff := s.params.pageSize *
          (((if s.crb.getLsbD 2 then d &&& s.ddrb else s.orb &&& d).toNat >>> s.params.pageLo) % 2 ^ s.params.pageBits)
        dbgwe := s.dbgwe || isSentinel s.params addr d
        out := none })

/-- The four register reads: the byte driven, and nothing written but the detector (R123, R125, R127, R129; that a read
has no side effect is spec decision D17, the detector's step D29 and D30). -/
def Obligations.RegisterReads : Prop :=
  ∀ (rom : Bool) (addr : Addr) (s : State),
    exec (.busRR0 rom addr) s = .next (detectorStep addr
      { s with out := some (if s.cra.getLsbD 2 then derivePort s.ora s.ddra s.ina else s.ddra) }) ∧
    exec (.busRR1 rom addr) s = .next (detectorStep addr { s with out := some (0#2 ++ s.cra) }) ∧
    exec (.busRR2 rom addr) s = .next (detectorStep addr
      { s with out := some (if s.crb.getLsbD 2 then derivePort s.orb s.ddrb s.inb else s.ddrb) }) ∧
    exec (.busRR3 rom addr) s = .next (detectorStep addr { s with out := some (0#2 ++ s.crb) })

/-- A composite port value bit by bit: the output register's bit where the direction bit is 1, else the input latch's;
the two ports are composites of their own registers; the rule's example (R121). -/
def Obligations.CompositePortBits : Prop :=
  (∀ o d i : Byte, derivePort o d i = (o &&& d) ||| (i &&& (0xFF ^^^ d)) ∧
    ∀ j, j < 8 → (derivePort o d i).getLsbD j = if d.getLsbD j then o.getLsbD j else i.getLsbD j) ∧
  (∀ s : State, portA s = derivePort s.ora s.ddra s.ina ∧ portB s = derivePort s.orb s.ddrb s.inb) ∧
  derivePort 0xA5 0xF0 0x3C = 0xAC

/-- The write-then-read law for the four register selects (R131). -/
def Obligations.WriteThenReadRegister : Prop :=
  ∀ (rom rom' : Bool) (addr addr' : Addr) (v : Byte) (s t u : State),
    ¬ (s.rstate = .waitEntry ∧ addr = s.params.resetEntry) →
    (exec (.busWR0 rom addr v) s = .next t → exec (.busRR0 rom' addr') t = .next u →
      u.out = some (if s.cra.getLsbD 2 then derivePort v s.ddra s.ina else v)) ∧
    (exec (.busWR1 rom addr v) s = .next t → exec (.busRR1 rom' addr') t = .next u →
      u.out = some (v &&& 0x3F)) ∧
    (exec (.busWR2 rom addr v) s = .next t → exec (.busRR2 rom' addr') t = .next u →
      u.out = some (if s.crb.getLsbD 2 then derivePort v s.ddrb s.inb else v)) ∧
    (exec (.busWR3 rom addr v) s = .next t → exec (.busRR3 rom' addr') t = .next u →
      u.out = some (v &&& 0x3F))

/-- A read sample given twice drives the same byte twice, unless the first completes the reset fingerprint
(20_memory R64). -/
def Obligations.ReadsAreIdempotent : Prop :=
  ∀ (i : Instr) (rom : Bool) (addr : Addr) (s t u : State),
    i ∈ [.busRR0 rom addr, .busRR1 rom addr, .busRR2 rom addr, .busRR3 rom addr, .busRRom addr] →
    ¬ completesFingerprint i s → exec i s = .next t → exec i t = .next u →
    u.out = t.out ∧ t.out ≠ none

/-! ### ROM window (41_bus_dispatch) -/

/-- BUS_R_ROM: ROMOFF is the page offset of the bits port B drives, the index lies in the image, and the byte there is
driven (R155, R156, R157; the page field is spec decision D14). -/
def Obligations.RomReadDrivesPagedByte : Prop :=
  ∀ (addr : Addr) (s : State), Inv s →
    s.romoff =
      s.params.pageSize * (((s.orb &&& s.ddrb).toNat >>> s.params.pageLo) % 2 ^ s.params.pageBits) ∧
    (addr.toNat &&& (s.params.pageSize - 1)) ||| s.romoff < s.params.romSize ∧
    exec (.busRRom addr) s = .next (detectorStep addr
      { s with out := some (Memory.read s.rom ((addr.toNat &&& (s.params.pageSize - 1)) ||| s.romoff)) })

/-- BUS_W_ROM: nothing without the debug path and its latch; with them the indexed byte and no other (R158; that an
enabled write stores there is spec decision D18). -/
def Obligations.RomWriteNeedsDebugLatch : Prop :=
  ∀ (addr : Addr) (d : Byte) (s : State),
    (¬ (s.params.debugPresent = true ∧ s.dbgwe = true) →
      exec (.busWRom addr d) s = .next (detectorStep addr { s with out := none })) ∧
    (Inv s → s.params.debugPresent = true → s.dbgwe = true →
      ∃ rom', exec (.busWRom addr d) s = .next (detectorStep addr { s with rom := rom', out := none }) ∧
        Memory.wf rom' ∧
        Memory.read rom' ((addr.toNat &&& (s.params.pageSize - 1)) ||| s.romoff) = d ∧
        ∀ a, a ≠ ((addr.toNat &&& (s.params.pageSize - 1)) ||| s.romoff) → Memory.read rom' a = Memory.read s.rom a)

/-- The ROM image is ROM_IMAGE at power-on, and no instruction but an enabled BUS_W_ROM changes it, so reinitialisation
does not (10_state R49). -/
def Obligations.RomChangesOnlyThroughDebugPath : Prop :=
  (∀ (p : Params) (a : Nat), Memory.read (State.powerOn p).rom a = Config.romImage a) ∧
  ∀ (i : Instr) (s t : State), exec i s = .next t →
    t.rom = s.rom ∨ (s.params.debugPresent = true ∧ s.dbgwe = true ∧ ∃ addr d, i = .busWRom addr d)

/-- DBGWE: a register write sets it exactly when it is the sentinel write; nothing else sets it, no instruction clears
it, and it is 0 at power-on (41_bus_dispatch R154, 10_state R48; spec decisions D18, D31). -/
def Obligations.DebugLatchRule : Prop :=
  (∀ (i : Instr) (s t : State), exec i s = .next t →
    (∀ rom addr d dbg, i ∈ deviceWrites rom addr d → s.params.debugPath = some dbg →
      (t.dbgwe = true ↔ s.dbgwe = true ∨ ((addr.extractLsb' 0 4).toNat = dbg.offset ∧ d = dbg.sentinel))) ∧
    ((∀ rom addr d, i ∉ deviceWrites rom addr d) → t.dbgwe = s.dbgwe) ∧
    (s.params.debugPath = none → t.dbgwe = s.dbgwe) ∧
    (s.dbgwe = true → t.dbgwe = true)) ∧
  ∀ p, (State.powerOn p).dbgwe = false

/-! ### Detector and reset (70_reset_and_hazards) -/

/-- BUS_UNSEL and BUS_SEL_NOWIN drive nothing and do nothing but the detector's step, all of whose transitions are
given (41_bus_dispatch R159, 70_reset R344; the addresses and the mismatch rule are spec decision D29). -/
def Obligations.DetectorTransitions : Prop :=
  ∀ (i : Instr) (rom dev rw : Bool) (addr : Addr) (s : State),
    i ∈ [.busUnsel rom dev rw addr, .busSelNowin rw addr] →
    (s.rstate = .waitLow →
      exec i s = .next { s with out := none, rstate := if addr = s.params.rvLo then .waitHigh else .waitLow }) ∧
    (s.rstate = .waitHigh →
      exec i s = .next { s with out := none, rstate := if addr = s.params.rvHi then .waitEntry else .waitLow }) ∧
    (s.rstate = .waitEntry → addr ≠ s.params.resetEntry →
      exec i s = .next { s with out := none, rstate := .waitLow }) ∧
    (s.rstate = .waitEntry → addr = s.params.resetEntry →
      ∃ t, exec i s = .next t ∧ isReinitialised t ∧ t.rstate = .waitLow ∧ t.out = none ∧
        t.dbgwe = s.dbgwe ∧ t.rom = s.rom ∧ t.params = s.params ∧ t.inputs = s.inputs ∧
        t.lastNow = s.lastNow ∧ t.drawn = s.drawn)

/-- Every sample, whatever its class and direction, advances the detector by its address; unless it completes the
fingerprint it writes no ProtocolState, MouseState, IRQ or input latch (70_reset R345, 20_memory R68; spec decisions D29,
D30). -/
def Obligations.EverySampleAdvancesDetector : Prop :=
  ∀ (i : Instr) (addr : Addr) (s t : State), sampleAddr i = some addr → exec i s = .next t →
    t.rstate = (match s.rstate with
      | .waitLow => if addr = s.params.rvLo then .waitHigh else .waitLow
      | .waitHigh => if addr = s.params.rvHi then .waitEntry else .waitLow
      | .waitEntry => .waitLow) ∧
    (¬ completesFingerprint i s → sameProtocol s t ∧ sameMouse s t ∧ t.ina = s.ina ∧ t.inb = s.inb) ∧
    (completesFingerprint i s → isReinitialised t)

/-- The three fingerprint addresses in a row reinitialise; any other third address leaves everything but what the
three samples' dispatch writes (70_reset R344, R347; spec decision D29). -/
def Obligations.FingerprintReinitialises : Prop :=
  ∀ (i j k : Instr) (s t u v : State) (a : Addr), s.rstate = .waitLow →
    sampleAddr i = some s.params.rvLo → sampleAddr j = some s.params.rvHi → sampleAddr k = some a →
    exec i s = .next t → exec j t = .next u → exec k u = .next v →
    v.rstate = .waitLow ∧
    (a = s.params.resetEntry → isReinitialised v) ∧
    (a ≠ s.params.resetEntry → sameProtocol s v ∧ sameMouse s v ∧ v.ina = s.ina ∧ v.inb = s.inb)

/-- Reinitialize gives every element it resets its reset value and leaves the debug latch, the ROM image and the
detector (70_reset R341; spec decisions D25, D32). -/
def Obligations.ReinitializeResets : Prop :=
  ∀ s : State, ∃ t, exec .reinitialize s = .next t ∧ isReinitialised t ∧
    t.dbgwe = s.dbgwe ∧ t.rom = s.rom ∧ t.rstate = s.rstate ∧
    t.params = s.params ∧ t.inputs = s.inputs ∧ t.lastNow = s.lastNow ∧ t.drawn = s.drawn ∧ t.out = none ∧
    (∀ slot, s.params = Params.forSlot slot → t.maxx = 1023 ∧ t.maxy = 1023 ∧ t.rinterval = 16666)

/-- A second Reinitialize right after a first changes nothing (70_reset R342). -/
def Obligations.ReinitializeIsIdempotent : Prop :=
  ∀ s t : State, exec .reinitialize s = .next t → exec .reinitialize t = .next t

/-- The power-on state: the reinitialised values, DBGWE = 0, the ROM image ROM_IMAGE, the detector in state 0
(70_reset R343; spec decisions D25, D31; the default slot is the model's choice, log 12). -/
def Obligations.PowerOnState : Prop :=
  (∀ p : Params, isReinitialised (State.powerOn p) ∧ (State.powerOn p).dbgwe = false ∧
    (∀ a, Memory.read (State.powerOn p).rom a = Config.romImage a) ∧ (State.powerOn p).rstate = .waitLow) ∧
  State.reset = State.powerOn (Params.forSlot 4) ∧ State.reset.maxx = 1023 ∧ State.reset.rinterval = 16666

/-! ### Input latches (41_bus_dispatch R163) -/

/-- SetInput writes the named port's latch and nothing else (R163; spec decision D39). -/
def Obligations.SetInputWritesLatch : Prop :=
  ∀ (port : Port) (v : Byte) (s : State),
    exec (.setInput port v) s = .next
      { s with
        ina := if port = .A then v else s.ina
        inb := if port = .B then v else s.inb
        out := none }

/-- Only a bus sample or a reinitialisation writes a direction, output or control register or ROMOFF, and only SetInput
of port B, a reinitialisation or a poll in its feedback bits writes INB, so with HS_FEEDBACK none no poll does (10_state
R52, R28, 42_protocol R192; the feedback bits are log 6). -/
def Obligations.OnlySamplesWriteRegisters : Prop :=
  ∀ (i : Instr) (s t : State), exec i s = .next t → ¬ reinitialises i s →
    (sampleAddr i = none → sameRegisters s t) ∧
    ((∀ v, i ≠ .setInput .B v) →
      (∀ j, j < 8 → ¬ (i = .protoPoll ∧ j ∈ s.params.hsFeedback) → t.inb.getLsbD j = s.inb.getLsbD j) ∧
      (s.params.hsFeedback = [] → t.inb = s.inb))

/-- A Sampler step reads no ProtocolState element: with any other ProtocolState it drives the same byte and leaves the
same RegisterBank, MouseState, IRQ, ROM, debug latch and detector (42_protocol R194). -/
def Obligations.SamplerNeverReadsProtocolState : Prop :=
  ∀ (i : Instr) (addr : Addr) (s p t t' : State), sampleAddr i = some addr → exec i s = .next t →
    exec i { s with cmd := p.cmd, pcnt := p.pcnt, pbuf := p.pbuf, rbuf := p.rbuf, rcnt := p.rcnt, pbsnap := p.pbsnap }
      = .next t' →
    t'.out = t.out ∧ sameRegisters t t' ∧ t'.ina = t.ina ∧ t'.inb = t.inb ∧ sameMouse t t' ∧
    t'.rom = t.rom ∧ t'.dbgwe = t.dbgwe ∧ t'.rstate = t.rstate

/-! ### Protocol machine (42_protocol) -/

/-- An edge is a bit of port B now 1 that was 0 in PBSNAP. A poll without a write-request edge: the snapshot, an
acknowledge edge's effect if there is one, and INB unchanged but in the feedback bits (R180, R181, R182, R183, R192;
spec decisions D3, D5, D8, D13; log 6). -/
def Obligations.PollAcknowledges : Prop :=
  ∀ s : State,
    (∀ j, j < 8 → (risen s).getLsbD j = ((portB s).getLsbD j && !s.pbsnap.getLsbD j)) ∧
    (∀ j, j < 8 → j ∉ s.params.hsFeedback → (afterAcknowledge s).inb.getLsbD j = s.inb.getLsbD j) ∧
    ((risen s).getLsbD s.params.wreqBit = false → exec .protoPoll s = .next (afterAcknowledge s))

/-- A write-request edge delivers port A's value, as it stood before any acknowledge, to the sequencer: an idle one takes
a command byte that needs parameters, a waiting one stores a parameter that is not the last (R181, R185; spec decisions
D5, D6, D7). -/
def Obligations.PollCollectsBytes : Prop :=
  ∀ s : State, (∀ j, j < 8 → (risen s).getLsbD j = ((portB s).getLsbD j && !s.pbsnap.getLsbD j)) ∧
    ((risen s).getLsbD s.params.wreqBit = true →
    (s.pcnt = 0 → paramCount (portA s) ≠ 0 →
      exec .protoPoll s =
        .next { afterAcknowledge s with cmd := portA s, pcnt := paramCount (portA s) }) ∧
    (∀ (n : Nat) (h : n < 3), s.pcnt.val = n + 2 →
      exec .protoPoll s =
        .next { afterAcknowledge s with pbuf := s.pbuf.set (n + 1) (portA s), pcnt := ⟨n + 1, by omega⟩ }))

/-- The poll that brings a command's last byte runs the command in the same step: exec of the decoded command, on the
state with that byte taken and PCNT = 0; it completes, with PCNT = 0 and the command byte still in CMD (R181, R185, R186; the
poll and the byte it takes are spec decisions D3, D5 to D7). -/
def Obligations.PollRunsCompletedCommand : Prop :=
  ∀ s : State, (∀ j, j < 8 → (risen s).getLsbD j = ((portB s).getLsbD j && !s.pbsnap.getLsbD j)) ∧
    ((risen s).getLsbD s.params.wreqBit = true →
    (s.pcnt = 0 → paramCount (portA s) = 0 →
      exec .protoPoll s = exec (decodeCommand (portA s)) { afterAcknowledge s with cmd := portA s, pcnt := 0 }) ∧
    (s.pcnt = 1 →
      exec .protoPoll s =
        exec (decodeCommand s.cmd) { afterAcknowledge s with pbuf := s.pbuf.set 0 (portA s), pcnt := 0 }) ∧
    (∀ c, completedCommand s = some c → ∃ t, exec .protoPoll s = .next t ∧ t.pcnt = 0 ∧ t.cmd = c))

/-- A poll right after a poll finds no edge but of a feedback bit: a level held across polls gives one edge only (R181,
R193; spec decision D5). With HS_FEEDBACK none the second poll changes nothing; else, where neither handshake bit is a
feedback bit, it changes no more than its snapshot and the feedback bits (R192, log 6). -/
def Obligations.HeldLevelGivesOneEdge : Prop :=
  ∀ s t : State,
    (∀ j, j < 8 → (risen s).getLsbD j = ((portB s).getLsbD j && !s.pbsnap.getLsbD j)) ∧
    (exec .protoPoll s = .next t →
      (∀ j, j < 8 → j ∉ s.params.hsFeedback → (risen t).getLsbD j = false) ∧
      (s.params.hsFeedback = [] → exec .protoPoll t = .next t) ∧
      (s.params.wreqBit ∉ s.params.hsFeedback → s.params.rackBit ∉ s.params.hsFeedback →
        ∃ b n, exec .protoPoll t = .next { t with pbsnap := portB t, inb := b, drawn := n } ∧
          ∀ j, j < 8 → j ∉ s.params.hsFeedback →
            b.getLsbD j = t.inb.getLsbD j ∧ (portB t).getLsbD j = t.pbsnap.getLsbD j))

/-! ### Commands (43_commands) -/

/-- The status byte bit by bit (30_encoding R93; the order of bits 3 to 1 is spec decision D11). -/
def Obligations.StatusByteLayout : Prop :=
  ∀ s : State,
    (statusByte s).getLsbD 7 = s.btn0 ∧ (statusByte s).getLsbD 6 = s.pbtn0 ∧ (statusByte s).getLsbD 5 = s.moved ∧
    (statusByte s).getLsbD 4 = s.btn1 ∧ (statusByte s).getLsbD 3 = s.causeRef ∧
    (statusByte s).getLsbD 2 = s.causeBtn ∧ (statusByte s).getLsbD 1 = s.causeMove ∧
    (statusByte s).getLsbD 0 = s.pbtn1

/-- SETMODE: the whole nibble, and the effective enables that follow; no other state; once refresh interrupts are
disabled the next RefreshPoll clears RDEADLINE (R220; that nothing else changes is spec decision D26, log 21). -/
def Obligations.SetModeStoresNibble : Prop :=
  ∀ (m : BitVec 4) (s : State), ∃ t, exec (.setMode m) s = .next t ∧ t = { s with mode := m } ∧
    (m.getLsbD 0 = false → moveIE t = false ∧ btnIE t = false ∧ refIE t = false) ∧
    (m.getLsbD 0 = true → moveIE t = m.getLsbD 1 ∧ btnIE t = m.getLsbD 2 ∧ refIE t = m.getLsbD 3) ∧
    (∀ now u, refIE t = false → exec (.refreshPoll now) t = .next u → u.rdeadline = none)

/-- READSTATUS: the five reply bytes staged and the first exposed, then MOVED cleared and the current position and
buttons copied to previous (R221, 30_encoding R94, 42_protocol R187). The order of the bytes is spec decision D10, the byte
in INA D8, the entries of RBUF above the reply D9, and that nothing else changes D26 (log 21). -/
def Obligations.ReadStatusStagesReply : Prop :=
  ∀ (sub : BitVec 4) (s : State),
    exec (.readStatus sub) s = .next
      { s with
        rbuf :=
          [statusByte s, BitVec.ofNat 8 (s.y / 256), BitVec.ofNat 8 s.y, BitVec.ofNat 8 (s.x / 256), BitVec.ofNat 8 s.x] ++
            s.rbuf.drop 5
        rcnt := 5
        ina := BitVec.ofNat 8 s.x
        moved := false
        px := s.x
        py := s.y
        pbtn0 := s.btn0
        pbtn1 := s.btn1 }

/-- SERVE: the status byte without the moved bit staged and exposed, the causes and IRQ cleared whatever the mode (R222,
42_protocol R187). The byte in INA is spec decision D8, the entries of RBUF above the reply D9, and that nothing else
changes D26 (log 21). -/
def Obligations.ServeClearsCauses : Prop :=
  ∀ (sub : BitVec 4) (s : State),
    exec (.serve sub) s = .next
      { s with
        rbuf := (statusByte s &&& 0xDF) :: s.rbuf.drop 1
        rcnt := 1
        ina := statusByte s &&& 0xDF
        causeMove := false
        causeBtn := false
        causeRef := false
        irq := false }

/-- CLEARPOS and HOME: the origin without clamping, and the rectangle's minimum corner (R223, R227; that nothing else
changes is spec decisions D26, D28). -/
def Obligations.ClearAndHomePosition : Prop :=
  ∀ (sub : BitVec 4) (s : State),
    exec (.clearPos sub) s = .next { s with x := 0, y := 0 } ∧
    exec (.home sub) s = .next { s with x := s.minx, y := s.miny, px := s.minx, py := s.miny }

/-- SETPOS: the 16-bit operands of PBUF clamped into the rectangle, to current and previous position alike (R224;
that nothing else changes is spec decision D28). The premise is of Inv: coordinates and bounds lie below 2^COORD_W. -/
def Obligations.SetPosClampsOperands : Prop :=
  ∀ (sub : BitVec 4) (s : State), coordsFit s →
    let nx := min (max ((s.pbuf.getD 3 0).toNat + 256 * (s.pbuf.getD 2 0).toNat) s.minx) s.maxx
    let ny := min (max ((s.pbuf.getD 1 0).toNat + 256 * (s.pbuf.getD 0 0).toNat) s.miny) s.maxy
    exec (.setPos sub) s = .next { s with x := nx, y := ny, px := nx, py := ny }

/-- INIT: the default rectangle, the timer unarmed, the home position, IRQ deasserted; no other state (R225; spec decision
D26). -/
def Obligations.InitRestoresRectangle : Prop :=
  ∀ (sub : BitVec 4) (s : State), s.params.sourceValues →
    exec (.init sub) s = .next
      { s with
        minx := 0, maxx := 1023, miny := 0, maxy := 1023
        rdeadline := none
        x := 0, y := 0, px := 0, py := 0
        irq := false }

/-- SETCLAMP: the axis's bounds, an inverted pair corrected to 0 and the floor of the exact average, then both axes of
the position reclamped (R226; spec decisions D27, D28). The premises are of Inv: coordinates and bounds lie below
2^COORD_W, and COORD_W holds a 16-bit operand. -/
def Obligations.SetClampSetsAxis : Prop :=
  ∀ (sub : BitVec 3) (axisY : Bool) (s : State), coordsFit s → 16 ≤ s.params.coordW →
    let a := (s.pbuf.getD 3 0).toNat + 256 * (s.pbuf.getD 1 0).toNat
    let b := (s.pbuf.getD 2 0).toNat + 256 * (s.pbuf.getD 0 0).toNat
    let lo := if a > b then 0 else a
    let hi := if a > b then (a + b) / 2 else b
    let minx := if axisY then s.minx else lo
    let maxx := if axisY then s.maxx else hi
    let miny := if axisY then lo else s.miny
    let maxy := if axisY then hi else s.maxy
    exec (.setClamp sub axisY) s = .next
      { s with
        minx := minx, maxx := maxx, miny := miny, maxy := maxy
        x := min (max s.x minx) maxx
        y := min (max s.y miny) maxy }

/-- SETTIMING: 20000 or 16666 microseconds, the armed deadline and all else unchanged (R229; spec decision D41). -/
def Obligations.SetTimingStoresInterval : Prop :=
  ∀ (count : BitVec 2) (ignored hz50 : Bool) (s : State), s.params.sourceValues →
    exec (.setTiming count ignored hz50) s = .next { s with rinterval := if hz50 then 20000 else 16666 }

/-- NOP8 and NOPB to NOPF change nothing, and delivered by a poll to an idle sequencer they leave only CMD and what the
poll itself writes (R228, R231 to R235; the edge, the byte it delivers and the acknowledge's effect are spec decisions D5
to D8, log 21). -/
def Obligations.UnimplementedCommandsChangeOnlyCmd : Prop :=
  ∀ (sub : BitVec 4) (s : State),
    (∀ i ∈ [Instr.nop8 sub, .nopB sub, .nopC sub, .nopD sub, .nopE sub, .nopF sub], exec i s = .next s) ∧
    (∀ c ∈ [commandByte 0x8 sub, commandByte 0xB sub, commandByte 0xC sub, commandByte 0xD sub, commandByte 0xE sub,
        commandByte 0xF sub],
      (risen s).getLsbD s.params.wreqBit = true → s.pcnt = 0 → portA s = c →
      exec .protoPoll s = .next { afterAcknowledge s with cmd := c })

/-- VENDOR changes nothing; the poll that brings its parameter stores it in PBUF[0] and leaves no command pending
(R230; the edge, the byte it delivers and the acknowledge's effect are spec decisions D5 to D8, log 21). -/
def Obligations.VendorConsumesParameter : Prop :=
  ∀ (sub : BitVec 4) (s : State),
    exec (.vendor sub) s = .next s ∧
    ((risen s).getLsbD s.params.wreqBit = true → s.pcnt = 1 → s.cmd = commandByte 0xA sub →
      exec .protoPoll s = .next { afterAcknowledge s with pbuf := s.pbuf.set 0 (portA s), pcnt := 0 })

/-! ### Mouse engine (44_mouse_engine) -/

/-- `satAdd` branch by branch, inside the rectangle and outside it: up to the larger of maximum and start, down to the
smaller of minimum and start, or unmoved. So it is the clamp where the start lies between the bounds, never moves against
the direction of travel, and stays in the range of start and bounds, such as 0..65535 (R271; spec decision D19). -/
def Obligations.SaturatingAddLaws : Prop :=
  ∀ v d lo hi : Int,
    (d > 0 → satAdd v d lo hi = min (v + d) (max hi v) ∧ v ≤ satAdd v d lo hi) ∧
    (d < 0 → satAdd v d lo hi = max (v + d) (min lo v) ∧ satAdd v d lo hi ≤ v) ∧
    (d = 0 → satAdd v d lo hi = v) ∧
    (lo ≤ v → v ≤ hi → satAdd v d lo hi = min (max (v + d) lo) hi) ∧
    (∀ m, 0 ≤ v → v ≤ m → 0 ≤ lo → lo ≤ hi → hi ≤ m → 0 ≤ satAdd v d lo hi ∧ satAdd v d lo hi ≤ m)

/-- Move: the saturated position, and on a change MOVED, the enabled cause and the asserted line; no other state
(R273, R274; spec decisions D20, D21, D23). The sums are those of SaturatingAddLaws; the premise on the coordinates is of
Inv. -/
def Obligations.MoveReport : Prop :=
  ∀ (dx dy : Int) (s : State), signedByte dx → signedByte dy → coordsFit s →
    let nx := (satAdd s.x dx s.minx s.maxx).toNat
    let ny := (satAdd s.y dy s.miny s.maxy).toNat
    let changed := decide (nx ≠ s.x ∨ ny ≠ s.y)
    let cause := changed && (s.mode.getLsbD 0 && s.mode.getLsbD 1)
    exec (.move dx dy) s = .next
      { s with
        x := nx
        y := ny
        moved := s.moved || changed
        causeMove := s.causeMove || cause
        irq := s.irq || (cause && !s.causeMove && !s.causeBtn && !s.causeRef)
        out := none }

/-- At the maximum a positive delta changes nothing: not the position, not MOVED, not a cause (R282). The premise
on the coordinates is of Inv. -/
def Obligations.MoveSaturatesAtMaximum : Prop :=
  ∀ (d : Int) (s : State), signedByte d → d > 0 → coordsFit s →
    (s.x = s.maxx → exec (.move d 0) s = .next { s with out := none }) ∧
    (s.y = s.maxy → exec (.move 0 d) s = .next { s with out := none })

/-- Button: the named button, and the cause on every report while enabled; no other state (R275; spec decisions D22,
D23). -/
def Obligations.ButtonReport : Prop :=
  ∀ (i : Nat) (p : Bool) (s : State), i ≤ 1 →
    let cause := s.mode.getLsbD 0 && s.mode.getLsbD 2
    exec (.button i p) s = .next
      { s with
        btn0 := if i = 0 then p else s.btn0
        btn1 := if i = 1 then p else s.btn1
        causeBtn := s.causeBtn || cause
        irq := s.irq || (cause && !s.causeMove && !s.causeBtn && !s.causeRef)
        out := none }

/-- RefreshPoll: cleared while disabled, armed without firing, fired and advanced by exactly one interval, or waiting;
no other state but the time seen, which is the model's own field (log 9) (R276, R277; when the line's edge is looked at is
spec decision D23). -/
def Obligations.RefreshPollReport : Prop :=
  ∀ (now : Nat) (s : State), timeInRange s.params now → s.lastNow ≤ now →
    let enabled := s.mode.getLsbD 0 && s.mode.getLsbD 3
    (enabled = false →
      exec (.refreshPoll now) s = .next { s with rdeadline := none, lastNow := now, out := none }) ∧
    (enabled = true → s.rdeadline = none →
      exec (.refreshPoll now) s =
        .next { s with rdeadline := some ((now + s.rinterval) % 2 ^ s.params.timeW), lastNow := now, out := none }) ∧
    (∀ d, enabled = true → s.rdeadline = some d → d ≤ now →
      exec (.refreshPoll now) s = .next
        { s with
          causeRef := true
          rdeadline := some ((d + s.rinterval) % 2 ^ s.params.timeW)
          irq := s.irq || (!s.causeMove && !s.causeBtn && !s.causeRef)
          lastNow := now
          out := none }) ∧
    (∀ d, enabled = true → s.rdeadline = some d → now < d →
      exec (.refreshPoll now) s = .next { s with lastNow := now, out := none })

/-- An armed or advanced deadline never wraps: it is the exact sum (44_mouse_engine R279, 00_scope R7). -/
def Obligations.DeadlineNeverWraps : Prop :=
  ∀ (now : Nat) (s t : State) (d : Nat), Inv s → exec (.refreshPoll now) s = .next t → t.rdeadline = some d →
    (s.rdeadline = none → d = now + s.rinterval) ∧
    (∀ e, s.rdeadline = some e → d = if e ≤ now then e + s.rinterval else e) ∧ d < 2 ^ s.params.timeW

/-- The assert rule for the three reports: IRQ goes up exactly when a cause is set after the step and none was before
(R277; spec decision D23). -/
def Obligations.InterruptAssertRule : Prop :=
  ∀ (i : Instr) (dx dy : Int) (k : Nat) (p : Bool) (now : Nat) (s t : State),
    i ∈ [.move dx dy, .button k p, .refreshPoll now] → exec i s = .next t →
    t.irq = (s.irq || (!(s.causeMove || s.causeBtn || s.causeRef) && (t.causeMove || t.causeBtn || t.causeRef)))

/-- With IRQ down and a cause latched, no instruction but SERVE (alone or in the poll that completes it) and a
reinitialisation changes that: the line stays down and a cause stays latched, so no report asserts IRQ. INIT with a cause
latched leaves exactly this (60_exceptions R317, which the spec derives from R225 and R277). -/
def Obligations.PendingCauseBlocksAssertAfterInit : Prop :=
  (∀ (i : Instr) (s t : State), s.irq = false → (s.causeMove || s.causeBtn || s.causeRef) = true → exec i s = .next t →
    ¬ runsOpcode 0x2 i s → ¬ reinitialises i s →
    t.irq = false ∧ (t.causeMove || t.causeBtn || t.causeRef) = true) ∧
  ∀ (sub : BitVec 4) (s : State), (s.causeMove || s.causeBtn || s.causeRef) = true →
    ∃ t, exec (.init sub) s = .next t ∧ t.irq = false ∧ (t.causeMove || t.causeBtn || t.causeRef) = true

/-- What is refused: deltas outside a signed byte, a third button, a time that wraps or goes back; and by the step that
would take it, a sample whose flags disagree with the windows of its address (60_exceptions R311, 41_bus_dispatch R151;
spec decisions D15, D42; logs 7, 8). -/
def Obligations.UnadmittedArgumentsRefused : Prop :=
  ∀ s : State,
    (∀ dx dy, ¬ (signedByte dx ∧ signedByte dy) ↔ exec (.move dx dy) s = .refused .moveOutsideSignedByte) ∧
    (∀ i p, ¬ i ≤ 1 ↔ exec (.button i p) s = .refused .buttonIndexOutside) ∧
    (∀ now, ¬ timeInRange s.params now ↔ exec (.refreshPoll now) s = .refused .timeOutOfRange) ∧
    (∀ now, (timeInRange s.params now ∧ now < s.lastNow) ↔
      exec (.refreshPoll now) s = .refused .timeNotMonotonic) ∧
    (∀ (w : BitVec 20) (data : Byte) (rest : List Stimulus), s.inputs = .sample w data :: rest →
      let a := (w.extractLsb' 0 16).toNat
      (step s = .refused .sampleFlagsDisagree ↔
        ¬ ((w.getLsbD 17 = true ↔ s.params.devBase ≤ a ∧ a < s.params.devBase + s.params.devSize) ∧
          (w.getLsbD 18 = true ↔ s.params.romBase ≤ a ∧ a < s.params.romBase + s.params.pageSize) ∧
          w.getLsbD 19 = (w.getLsbD 17 || w.getLsbD 18))))

/-! ### Whole-machine rules -/

/-- IRQ is cleared by SERVE, INIT and reinitialisation, and by nothing else (44_mouse_engine R278). -/
def Obligations.OnlyServeInitReinitDeassertIrq : Prop :=
  ∀ (i : Instr) (s t : State), exec i s = .next t →
    (runsOpcode 0x2 i s ∨ runsOpcode 0x5 i s ∨ reinitialises i s → t.irq = false) ∧
    (s.irq = true → t.irq = false → runsOpcode 0x2 i s ∨ runsOpcode 0x5 i s ∨ reinitialises i s)

/-- Each cause is set only by its own report under its effective enable, and all three are cleared together, only by
SERVE and reinitialisation; they are bits 1, 2 and 3 of the status byte (10_state R42; spec decision D11). -/
def Obligations.CausesSetAndClearedOnlyByRule : Prop :=
  ∀ (i : Instr) (s t : State), exec i s = .next t →
    (s.causeMove = false → t.causeMove = true → moveIE s = true ∧ ∃ dx dy, i = .move dx dy) ∧
    (s.causeBtn = false → t.causeBtn = true → btnIE s = true ∧ ∃ k p, i = .button k p) ∧
    (s.causeRef = false → t.causeRef = true → refIE s = true ∧ ∃ now, i = .refreshPoll now) ∧
    (s.causeMove = true ∧ t.causeMove = false ∨ s.causeBtn = true ∧ t.causeBtn = false ∨
        s.causeRef = true ∧ t.causeRef = false →
      runsOpcode 0x2 i s ∨ reinitialises i s) ∧
    (runsOpcode 0x2 i s ∨ reinitialises i s →
      t.causeMove = false ∧ t.causeBtn = false ∧ t.causeRef = false) ∧
    (statusByte s).getLsbD 1 = s.causeMove ∧ (statusByte s).getLsbD 2 = s.causeBtn ∧
    (statusByte s).getLsbD 3 = s.causeRef

/-- The effective enables are MODE's higher bits each gated by bit 0, and MODE is written only by SETMODE and
reinitialisation (10_state R40). -/
def Obligations.ModeWrittenOnlyBySetMode : Prop :=
  (∀ s : State, moveIE s = (s.mode.getLsbD 0 && s.mode.getLsbD 1) ∧ btnIE s = (s.mode.getLsbD 0 && s.mode.getLsbD 2) ∧
    refIE s = (s.mode.getLsbD 0 && s.mode.getLsbD 3)) ∧
  ∀ (i : Instr) (s t : State), exec i s = .next t → t.mode ≠ s.mode → runsOpcode 0x0 i s ∨ reinitialises i s

/-- MOVED is set only by a movement report that changes the position and cleared only by READSTATUS and
reinitialisation; it is bit 5 of the status byte (10_state R41, 44_mouse_engine R273, 43_commands R221). That a change of
position is what sets it is spec decision D21, that no position write sets it D28, and that no other command, INIT among
them, clears it D26 (log 21). -/
def Obligations.MovedLatchRule : Prop :=
  ∀ (i : Instr) (s t : State), exec i s = .next t →
    (s.moved = false → t.moved = true → (∃ dx dy, i = .move dx dy) ∧ (t.x ≠ s.x ∨ t.y ≠ s.y)) ∧
    (∀ dx dy, i = .move dx dy → (t.x ≠ s.x ∨ t.y ≠ s.y) → t.moved = true) ∧
    (s.moved = true → t.moved = false → runsOpcode 0x1 i s ∨ reinitialises i s) ∧
    (runsOpcode 0x1 i s ∨ reinitialises i s → t.moved = false) ∧
    (statusByte s).getLsbD 5 = s.moved

/-- After SETPOS, SETCLAMP, HOME, INIT or a reinitialisation the position lies in the rectangle; every other instruction
but CLEARPOS keeps it there; a movement never takes a position below the minimum further out (R281). -/
def Obligations.PositionAndRectangle : Prop :=
  ∀ (i : Instr) (s t : State), Inv s → exec i s = .next t →
    (runsOpcode 0x4 i s ∨ runsOpcode 0x6 i s ∨ runsOpcode 0x7 i s ∨ runsOpcode 0x5 i s ∨ reinitialises i s →
      inRectangle t) ∧
    (inRectangle s → ¬ inRectangle t → runsOpcode 0x3 i s ∧ t.x = 0 ∧ t.y = 0) ∧
    (∀ dx dy, i = .move dx dy →
      (s.x < s.minx → s.x ≤ t.x ∧ t.x ≤ s.maxx) ∧ (s.y < s.miny → s.y ≤ t.y ∧ t.y ≤ s.maxy))

/-! ### The invariant -/

/-- Every step from a state with the invariant keeps the invariant and the parameters, and none faults (10_state R29, R33,
R34, R35, R44; 20_memory R71; 60_exceptions R310). -/
def Obligations.EveryStepKeepsInvariant : Prop :=
  ∀ s : State, Inv s →
    (∀ t, step s = .next t → Inv t ∧ t.params = s.params) ∧ ∀ f, step s ≠ .fault f

/-- The power-on state has the invariant, under every admissible choice of the parameters and under the defaults. -/
def Obligations.PowerOnHasInvariant : Prop :=
  (∀ p : Params, p.valid → Inv (State.powerOn p)) ∧ Inv State.reset

/-- No run faults: from power-on, whatever actions the environment chooses (60_exceptions R310; that a run is a list of
chosen actions is the model's, log 1). -/
def Obligations.NoReachableFault : Prop :=
  ∀ s : State, Reachable s → Inv s ∧ ∀ f, step s ≠ .fault f
end

