-- ==== Sys2Proof/Laws/Decode.lean ====
section
/-!
SUPPORT. The small lemmas of the encodings: the fields read back from a sample word and from a command byte.
-/

namespace Sys2Proof

/-- Each bit of a flag alone. -/
@[simp] theorem getLsbD_flagBit (b : Bool) (i j : Nat) :
    (flagBit b i).getLsbD j = (decide (j < 20) && (decide (i = j) && b)) := by
  by_cases h : i = j
  · subst h; simp [flagBit]
  · by_cases h2 : i < j
    · have : j - i ≠ 0 := by omega
      simp [flagBit, h, this]
    · simp [flagBit, h, show j < i by omega]

/-- Each bit of a flag alone, where the bit exists. -/
@[simp] theorem getElem_flagBit (b : Bool) (i j : Nat) (hj : j < 20) :
    (flagBit b i)[j] = (decide (i = j) && b) := by
  rw [← BitVec.getLsbD_eq_getElem, getLsbD_flagBit]; simp [hj]

/-- A sample word's fields read back as they were written (30_encoding R81). -/
@[simp] theorem ofWord_sampleWord (sel rom dev rw : Bool) (addr : Addr) (data : Byte) :
    BusSample.ofWord (sampleWord sel rom dev rw addr) data = ⟨sel, rom, dev, rw, addr, data⟩ := by
  simp only [BusSample.ofWord, sampleWord, BusSample.mk.injEq, and_true, BitVec.getLsbD_or, getLsbD_flagBit,
    BitVec.getLsbD_setWidth]
  refine ⟨by simp, by simp, by simp, by simp, ?_⟩
  apply BitVec.eq_of_getLsbD_eq
  intro i hi
  interval_cases i <;> simp

/-- A sample word written again from its fields is the word (30_encoding R81). -/
theorem sampleWord_ofWord (w : BitVec 20) :
    sampleWord (w.getLsbD 19) (w.getLsbD 18) (w.getLsbD 17) (w.getLsbD 16) (w.extractLsb' 0 16) = w := by
  apply BitVec.eq_of_getLsbD_eq
  intro i hi
  simp only [sampleWord, BitVec.getLsbD_or, getLsbD_flagBit, BitVec.getLsbD_setWidth, BitVec.getLsbD_extractLsb']
  interval_cases i <;> simp

/-- The opcode nibble reads back (30_encoding R85). -/
@[simp] theorem opcode_commandByte (op sub : BitVec 4) : opcode (commandByte op sub) = op := by
  revert op sub; decide

/-- The sub-mode nibble reads back (30_encoding R85). -/
@[simp] theorem subMode_commandByte (op sub : BitVec 4) : subMode (commandByte op sub) = sub := by
  revert op sub; decide

/-- A command byte is its two nibbles (30_encoding R85). -/
theorem commandByte_fields (c : Byte) : commandByte (opcode c) (subMode c) = c := by
  revert c; decide

end Sys2Proof
end

