-- ==== Sys2Proof/Laws/Memory.lean ====
section
/-!
SUPPORT. The laws of the ROM image: read after write, and that a write keeps the canonical form.
-/

namespace Sys2Proof.Machine

/-- No listed address below `n`: what a canonical list's tail looks like from its head. -/
theorem memory_read_of_below (m : List Host.Cell) (a : Nat) (h : ∀ c ∈ m, a < c.1) :
    Memory.read m a = Memory.unlisted a := by
  induction m with
  | nil => rfl
  | cons c rest ih =>
    obtain ⟨k, w⟩ := c
    have hk : a < k := h (k, w) (by simp)
    have hne : ¬ k = a := by omega
    simp only [Memory.read, if_neg hne]
    exact ih fun c hc => h c (by simp [hc])

/-- In a canonical list every later address is above the first. -/
theorem memory_wf_head {k : Nat} {w : Byte} {rest : List Host.Cell} (h : Memory.wf ((k, w) :: rest)) :
    ∀ c ∈ rest, k < c.1 := by
  intro c hc
  have := (List.pairwise_cons.1 h.1).1 c.1 (List.mem_map_of_mem (f := Prod.fst) hc)
  simpa using this

/-- The tail of a canonical list is canonical. -/
theorem memory_wf_tail {c : Host.Cell} {rest : List Host.Cell} (h : Memory.wf (c :: rest)) : Memory.wf rest :=
  ⟨(List.pairwise_cons.1 h.1).2, fun d hd => h.2 d (by simp [hd])⟩

/-- A cell of a written list is the one written or one that was there. -/
theorem memory_mem_write {m : List Host.Cell} {a : Nat} {v : Byte} {c : Host.Cell} (h : c ∈ Memory.write m a v) :
    c = (a, v) ∨ c ∈ m := by
  induction m with
  | nil =>
    simp only [Memory.write] at h
    split at h <;> simp_all
  | cons d rest ih =>
    obtain ⟨k, w⟩ := d
    simp only [Memory.write] at h
    split_ifs at h
    · rcases List.mem_cons.1 h with h | h
      · simp [h]
      · rcases ih h with h | h <;> simp [h]
    all_goals simp_all
    all_goals rcases h with h | h <;> simp_all

/-- The byte written reads back. -/
theorem memory_read_write_same {m : List Host.Cell} (a : Nat) (v : Byte) (h : Memory.wf m) :
    Memory.read (Memory.write m a v) a = v := by
  induction m with
  | nil =>
    simp only [Memory.write]
    split_ifs with hv
    · simp [Memory.read, hv]
    · simp [Memory.read]
  | cons c rest ih =>
    obtain ⟨k, w⟩ := c
    have hb := memory_wf_head h
    simp only [Memory.write]
    split_ifs with h1 h2 h3 h4
    · have hne : ¬ k = a := by omega
      simpa only [Memory.read, if_neg hne] using ih (memory_wf_tail h)
    · subst h2
      rw [memory_read_of_below rest k hb, h3]
    · simp [Memory.read]
    · have hne : ¬ k = a := h2
      simp only [Memory.read, if_neg hne]
      rw [memory_read_of_below rest a fun c hc => by have := hb c hc; omega, h4]
    · simp [Memory.read]

/-- Every other byte reads as before. -/
theorem memory_read_write_other {m : List Host.Cell} {a b : Nat} (v : Byte) (hab : a ≠ b) :
    Memory.read (Memory.write m a v) b = Memory.read m b := by
  induction m with
  | nil =>
    simp only [Memory.write]
    split_ifs
    · rfl
    · simp [Memory.read, hab]
  | cons c rest ih =>
    obtain ⟨k, w⟩ := c
    simp only [Memory.write]
    split_ifs with h1 h2 h3 h4
    · simp only [Memory.read, ih]
    · subst h2; simp [Memory.read, hab]
    · subst h2; simp [Memory.read, hab]
    · rfl
    · simp [Memory.read, hab]

/-- A write keeps the canonical form. -/
theorem memory_write_wf {m : List Host.Cell} (a : Nat) (v : Byte) (h : Memory.wf m) :
    Memory.wf (Memory.write m a v) := by
  induction m with
  | nil =>
    simp only [Memory.write]
    split_ifs with hv
    · exact h
    · exact ⟨by simp, by simpa using hv⟩
  | cons c rest ih =>
    obtain ⟨k, w⟩ := c
    have hb := memory_wf_head h
    have ht := memory_wf_tail h
    have hw : w ≠ Memory.unlisted k := h.2 (k, w) (by simp)
    simp only [Memory.write]
    split_ifs with h1 h2 h3 h4
    · have hi := ih ht
      refine ⟨List.pairwise_cons.2 ⟨?_, hi.1⟩, ?_⟩
      · intro n hn
        obtain ⟨c, hc, rfl⟩ := List.mem_map.1 hn
        rcases memory_mem_write hc with rfl | hc
        · exact h1
        · exact hb c hc
      · intro c hc
        rcases List.mem_cons.1 hc with rfl | hc
        · exact hw
        · exact hi.2 c hc
    · exact ht
    · refine ⟨List.pairwise_cons.2 ⟨?_, ht.1⟩, ?_⟩
      · intro n hn
        obtain ⟨c, hc, rfl⟩ := List.mem_map.1 hn
        have := hb c hc
        simp only
        omega
      · intro c hc
        rcases List.mem_cons.1 hc with rfl | hc
        · exact h3
        · exact ht.2 c hc
    · exact h
    · refine ⟨List.pairwise_cons.2 ⟨?_, h.1⟩, ?_⟩
      · intro n hn
        obtain ⟨c, hc, rfl⟩ := List.mem_map.1 hn
        rcases List.mem_cons.1 hc with rfl | hc
        · simp only; omega
        · have := hb c hc
          simp only
          omega
      · intro c hc
        rcases List.mem_cons.1 hc with rfl | hc
        · exact h4
        · exact h.2 c hc

/-- A write inside the image keeps the list inside it. -/
theorem memory_write_inside {m : List Host.Cell} {a size : Nat} (v : Byte) (ha : a < size) (h : Memory.inside m size) :
    Memory.inside (Memory.write m a v) size := by
  intro c hc
  rcases memory_mem_write hc with rfl | hc
  · exact ha
  · exact h c hc

end Sys2Proof.Machine
end

