-- ==== Sys2Proof/Laws/State.lean ====
section
/-!
SUPPORT. One lemma per field for each update of the state that a named operation makes.
-/

namespace Sys2Proof.Machine

variable (s : State)

/-! A Service or Environment action outputs nothing. -/

@[simp] theorem quiet_ddra : (quiet s).ddra = s.ddra := rfl
@[simp] theorem quiet_ora : (quiet s).ora = s.ora := rfl
@[simp] theorem quiet_cra : (quiet s).cra = s.cra := rfl
@[simp] theorem quiet_ina : (quiet s).ina = s.ina := rfl
@[simp] theorem quiet_ddrb : (quiet s).ddrb = s.ddrb := rfl
@[simp] theorem quiet_orb : (quiet s).orb = s.orb := rfl
@[simp] theorem quiet_crb : (quiet s).crb = s.crb := rfl
@[simp] theorem quiet_inb : (quiet s).inb = s.inb := rfl
@[simp] theorem quiet_romoff : (quiet s).romoff = s.romoff := rfl
@[simp] theorem quiet_cmd : (quiet s).cmd = s.cmd := rfl
@[simp] theorem quiet_pcnt : (quiet s).pcnt = s.pcnt := rfl
@[simp] theorem quiet_pbuf : (quiet s).pbuf = s.pbuf := rfl
@[simp] theorem quiet_rbuf : (quiet s).rbuf = s.rbuf := rfl
@[simp] theorem quiet_rcnt : (quiet s).rcnt = s.rcnt := rfl
@[simp] theorem quiet_pbsnap : (quiet s).pbsnap = s.pbsnap := rfl
@[simp] theorem quiet_x : (quiet s).x = s.x := rfl
@[simp] theorem quiet_y : (quiet s).y = s.y := rfl
@[simp] theorem quiet_px : (quiet s).px = s.px := rfl
@[simp] theorem quiet_py : (quiet s).py = s.py := rfl
@[simp] theorem quiet_btn0 : (quiet s).btn0 = s.btn0 := rfl
@[simp] theorem quiet_btn1 : (quiet s).btn1 = s.btn1 := rfl
@[simp] theorem quiet_pbtn0 : (quiet s).pbtn0 = s.pbtn0 := rfl
@[simp] theorem quiet_pbtn1 : (quiet s).pbtn1 = s.pbtn1 := rfl
@[simp] theorem quiet_mode : (quiet s).mode = s.mode := rfl
@[simp] theorem quiet_moved : (quiet s).moved = s.moved := rfl
@[simp] theorem quiet_causeMove : (quiet s).causeMove = s.causeMove := rfl
@[simp] theorem quiet_causeBtn : (quiet s).causeBtn = s.causeBtn := rfl
@[simp] theorem quiet_causeRef : (quiet s).causeRef = s.causeRef := rfl
@[simp] theorem quiet_minx : (quiet s).minx = s.minx := rfl
@[simp] theorem quiet_maxx : (quiet s).maxx = s.maxx := rfl
@[simp] theorem quiet_miny : (quiet s).miny = s.miny := rfl
@[simp] theorem quiet_maxy : (quiet s).maxy = s.maxy := rfl
@[simp] theorem quiet_rinterval : (quiet s).rinterval = s.rinterval := rfl
@[simp] theorem quiet_rdeadline : (quiet s).rdeadline = s.rdeadline := rfl
@[simp] theorem quiet_irq : (quiet s).irq = s.irq := rfl
@[simp] theorem quiet_dbgwe : (quiet s).dbgwe = s.dbgwe := rfl
@[simp] theorem quiet_rom : (quiet s).rom = s.rom := rfl
@[simp] theorem quiet_rstate : (quiet s).rstate = s.rstate := rfl
@[simp] theorem quiet_params : (quiet s).params = s.params := rfl
@[simp] theorem quiet_inputs : (quiet s).inputs = s.inputs := rfl
@[simp] theorem quiet_lastNow : (quiet s).lastNow = s.lastNow := rfl
@[simp] theorem quiet_out : (quiet s).out = none := rfl
@[simp] theorem quiet_drawn : (quiet s).drawn = s.drawn := rfl

/-! Reinitialize, field by field (70_reset R341). -/

@[simp] theorem reinit_ddra : (reinit s).ddra = 0 := rfl
@[simp] theorem reinit_ora : (reinit s).ora = 0 := rfl
@[simp] theorem reinit_cra : (reinit s).cra = 0 := rfl
@[simp] theorem reinit_ina : (reinit s).ina = 0 := rfl
@[simp] theorem reinit_ddrb : (reinit s).ddrb = 0 := rfl
@[simp] theorem reinit_orb : (reinit s).orb = 0 := rfl
@[simp] theorem reinit_crb : (reinit s).crb = 0 := rfl
@[simp] theorem reinit_inb : (reinit s).inb = 0 := rfl
@[simp] theorem reinit_romoff : (reinit s).romoff = romPageOffset s.params 0 0 := rfl
@[simp] theorem reinit_cmd : (reinit s).cmd = 0 := rfl
@[simp] theorem reinit_pcnt : (reinit s).pcnt = 0 := rfl
@[simp] theorem reinit_pbuf : (reinit s).pbuf = List.replicate s.params.pbufN 0 := rfl
@[simp] theorem reinit_rbuf : (reinit s).rbuf = List.replicate s.params.rbufN 0 := rfl
@[simp] theorem reinit_rcnt : (reinit s).rcnt = 0 := rfl
@[simp] theorem reinit_pbsnap : (reinit s).pbsnap = 0 := rfl
@[simp] theorem reinit_x : (reinit s).x = 0 := rfl
@[simp] theorem reinit_y : (reinit s).y = 0 := rfl
@[simp] theorem reinit_px : (reinit s).px = 0 := rfl
@[simp] theorem reinit_py : (reinit s).py = 0 := rfl
@[simp] theorem reinit_btn0 : (reinit s).btn0 = false := rfl
@[simp] theorem reinit_btn1 : (reinit s).btn1 = false := rfl
@[simp] theorem reinit_pbtn0 : (reinit s).pbtn0 = false := rfl
@[simp] theorem reinit_pbtn1 : (reinit s).pbtn1 = false := rfl
@[simp] theorem reinit_mode : (reinit s).mode = 0 := rfl
@[simp] theorem reinit_moved : (reinit s).moved = false := rfl
@[simp] theorem reinit_causeMove : (reinit s).causeMove = false := rfl
@[simp] theorem reinit_causeBtn : (reinit s).causeBtn = false := rfl
@[simp] theorem reinit_causeRef : (reinit s).causeRef = false := rfl
@[simp] theorem reinit_minx : (reinit s).minx = 0 := rfl
@[simp] theorem reinit_maxx : (reinit s).maxx = s.params.clampMaxDefault := rfl
@[simp] theorem reinit_miny : (reinit s).miny = 0 := rfl
@[simp] theorem reinit_maxy : (reinit s).maxy = s.params.clampMaxDefault := rfl
@[simp] theorem reinit_rinterval : (reinit s).rinterval = s.params.intervalReset := rfl
@[simp] theorem reinit_rdeadline : (reinit s).rdeadline = none := rfl
@[simp] theorem reinit_irq : (reinit s).irq = false := rfl
@[simp] theorem reinit_dbgwe : (reinit s).dbgwe = s.dbgwe := rfl
@[simp] theorem reinit_rom : (reinit s).rom = s.rom := rfl
@[simp] theorem reinit_rstate : (reinit s).rstate = s.rstate := rfl
@[simp] theorem reinit_params : (reinit s).params = s.params := rfl
@[simp] theorem reinit_inputs : (reinit s).inputs = s.inputs := rfl
@[simp] theorem reinit_lastNow : (reinit s).lastNow = s.lastNow := rfl
@[simp] theorem reinit_out : (reinit s).out = s.out := rfl
@[simp] theorem reinit_drawn : (reinit s).drawn = s.drawn := rfl

/-! The end of an interrupt. -/

@[simp] theorem serveInterrupt_ddra : (serveInterrupt s).ddra = s.ddra := rfl
@[simp] theorem serveInterrupt_ora : (serveInterrupt s).ora = s.ora := rfl
@[simp] theorem serveInterrupt_cra : (serveInterrupt s).cra = s.cra := rfl
@[simp] theorem serveInterrupt_ina : (serveInterrupt s).ina = s.ina := rfl
@[simp] theorem serveInterrupt_ddrb : (serveInterrupt s).ddrb = s.ddrb := rfl
@[simp] theorem serveInterrupt_orb : (serveInterrupt s).orb = s.orb := rfl
@[simp] theorem serveInterrupt_crb : (serveInterrupt s).crb = s.crb := rfl
@[simp] theorem serveInterrupt_inb : (serveInterrupt s).inb = s.inb := rfl
@[simp] theorem serveInterrupt_romoff : (serveInterrupt s).romoff = s.romoff := rfl
@[simp] theorem serveInterrupt_cmd : (serveInterrupt s).cmd = s.cmd := rfl
@[simp] theorem serveInterrupt_pcnt : (serveInterrupt s).pcnt = s.pcnt := rfl
@[simp] theorem serveInterrupt_pbuf : (serveInterrupt s).pbuf = s.pbuf := rfl
@[simp] theorem serveInterrupt_rbuf : (serveInterrupt s).rbuf = s.rbuf := rfl
@[simp] theorem serveInterrupt_rcnt : (serveInterrupt s).rcnt = s.rcnt := rfl
@[simp] theorem serveInterrupt_pbsnap : (serveInterrupt s).pbsnap = s.pbsnap := rfl
@[simp] theorem serveInterrupt_x : (serveInterrupt s).x = s.x := rfl
@[simp] theorem serveInterrupt_y : (serveInterrupt s).y = s.y := rfl
@[simp] theorem serveInterrupt_px : (serveInterrupt s).px = s.px := rfl
@[simp] theorem serveInterrupt_py : (serveInterrupt s).py = s.py := rfl
@[simp] theorem serveInterrupt_btn0 : (serveInterrupt s).btn0 = s.btn0 := rfl
@[simp] theorem serveInterrupt_btn1 : (serveInterrupt s).btn1 = s.btn1 := rfl
@[simp] theorem serveInterrupt_pbtn0 : (serveInterrupt s).pbtn0 = s.pbtn0 := rfl
@[simp] theorem serveInterrupt_pbtn1 : (serveInterrupt s).pbtn1 = s.pbtn1 := rfl
@[simp] theorem serveInterrupt_mode : (serveInterrupt s).mode = s.mode := rfl
@[simp] theorem serveInterrupt_moved : (serveInterrupt s).moved = s.moved := rfl
@[simp] theorem serveInterrupt_causeMove : (serveInterrupt s).causeMove = false := rfl
@[simp] theorem serveInterrupt_causeBtn : (serveInterrupt s).causeBtn = false := rfl
@[simp] theorem serveInterrupt_causeRef : (serveInterrupt s).causeRef = false := rfl
@[simp] theorem serveInterrupt_minx : (serveInterrupt s).minx = s.minx := rfl
@[simp] theorem serveInterrupt_maxx : (serveInterrupt s).maxx = s.maxx := rfl
@[simp] theorem serveInterrupt_miny : (serveInterrupt s).miny = s.miny := rfl
@[simp] theorem serveInterrupt_maxy : (serveInterrupt s).maxy = s.maxy := rfl
@[simp] theorem serveInterrupt_rinterval : (serveInterrupt s).rinterval = s.rinterval := rfl
@[simp] theorem serveInterrupt_rdeadline : (serveInterrupt s).rdeadline = s.rdeadline := rfl
@[simp] theorem serveInterrupt_irq : (serveInterrupt s).irq = false := rfl
@[simp] theorem serveInterrupt_dbgwe : (serveInterrupt s).dbgwe = s.dbgwe := rfl
@[simp] theorem serveInterrupt_rom : (serveInterrupt s).rom = s.rom := rfl
@[simp] theorem serveInterrupt_rstate : (serveInterrupt s).rstate = s.rstate := rfl
@[simp] theorem serveInterrupt_params : (serveInterrupt s).params = s.params := rfl
@[simp] theorem serveInterrupt_inputs : (serveInterrupt s).inputs = s.inputs := rfl
@[simp] theorem serveInterrupt_lastNow : (serveInterrupt s).lastNow = s.lastNow := rfl
@[simp] theorem serveInterrupt_out : (serveInterrupt s).out = s.out := rfl
@[simp] theorem serveInterrupt_drawn : (serveInterrupt s).drawn = s.drawn := rfl

/-! The exposed reply byte. -/

@[simp] theorem expose_ddra : (expose s).ddra = s.ddra := rfl
@[simp] theorem expose_ora : (expose s).ora = s.ora := rfl
@[simp] theorem expose_cra : (expose s).cra = s.cra := rfl
@[simp] theorem expose_ina : (expose s).ina = exposedByte s := rfl
@[simp] theorem expose_ddrb : (expose s).ddrb = s.ddrb := rfl
@[simp] theorem expose_orb : (expose s).orb = s.orb := rfl
@[simp] theorem expose_crb : (expose s).crb = s.crb := rfl
@[simp] theorem expose_inb : (expose s).inb = s.inb := rfl
@[simp] theorem expose_romoff : (expose s).romoff = s.romoff := rfl
@[simp] theorem expose_cmd : (expose s).cmd = s.cmd := rfl
@[simp] theorem expose_pcnt : (expose s).pcnt = s.pcnt := rfl
@[simp] theorem expose_pbuf : (expose s).pbuf = s.pbuf := rfl
@[simp] theorem expose_rbuf : (expose s).rbuf = s.rbuf := rfl
@[simp] theorem expose_rcnt : (expose s).rcnt = s.rcnt := rfl
@[simp] theorem expose_pbsnap : (expose s).pbsnap = s.pbsnap := rfl
@[simp] theorem expose_x : (expose s).x = s.x := rfl
@[simp] theorem expose_y : (expose s).y = s.y := rfl
@[simp] theorem expose_px : (expose s).px = s.px := rfl
@[simp] theorem expose_py : (expose s).py = s.py := rfl
@[simp] theorem expose_btn0 : (expose s).btn0 = s.btn0 := rfl
@[simp] theorem expose_btn1 : (expose s).btn1 = s.btn1 := rfl
@[simp] theorem expose_pbtn0 : (expose s).pbtn0 = s.pbtn0 := rfl
@[simp] theorem expose_pbtn1 : (expose s).pbtn1 = s.pbtn1 := rfl
@[simp] theorem expose_mode : (expose s).mode = s.mode := rfl
@[simp] theorem expose_moved : (expose s).moved = s.moved := rfl
@[simp] theorem expose_causeMove : (expose s).causeMove = s.causeMove := rfl
@[simp] theorem expose_causeBtn : (expose s).causeBtn = s.causeBtn := rfl
@[simp] theorem expose_causeRef : (expose s).causeRef = s.causeRef := rfl
@[simp] theorem expose_minx : (expose s).minx = s.minx := rfl
@[simp] theorem expose_maxx : (expose s).maxx = s.maxx := rfl
@[simp] theorem expose_miny : (expose s).miny = s.miny := rfl
@[simp] theorem expose_maxy : (expose s).maxy = s.maxy := rfl
@[simp] theorem expose_rinterval : (expose s).rinterval = s.rinterval := rfl
@[simp] theorem expose_rdeadline : (expose s).rdeadline = s.rdeadline := rfl
@[simp] theorem expose_irq : (expose s).irq = s.irq := rfl
@[simp] theorem expose_dbgwe : (expose s).dbgwe = s.dbgwe := rfl
@[simp] theorem expose_rom : (expose s).rom = s.rom := rfl
@[simp] theorem expose_rstate : (expose s).rstate = s.rstate := rfl
@[simp] theorem expose_params : (expose s).params = s.params := rfl
@[simp] theorem expose_inputs : (expose s).inputs = s.inputs := rfl
@[simp] theorem expose_lastNow : (expose s).lastNow = s.lastNow := rfl
@[simp] theorem expose_out : (expose s).out = s.out := rfl
@[simp] theorem expose_drawn : (expose s).drawn = s.drawn := rfl

/-! The recomputed ROM-page offset. -/

@[simp] theorem recomputeRomoff_ddra : (recomputeRomoff s).ddra = s.ddra := rfl
@[simp] theorem recomputeRomoff_ora : (recomputeRomoff s).ora = s.ora := rfl
@[simp] theorem recomputeRomoff_cra : (recomputeRomoff s).cra = s.cra := rfl
@[simp] theorem recomputeRomoff_ina : (recomputeRomoff s).ina = s.ina := rfl
@[simp] theorem recomputeRomoff_ddrb : (recomputeRomoff s).ddrb = s.ddrb := rfl
@[simp] theorem recomputeRomoff_orb : (recomputeRomoff s).orb = s.orb := rfl
@[simp] theorem recomputeRomoff_crb : (recomputeRomoff s).crb = s.crb := rfl
@[simp] theorem recomputeRomoff_inb : (recomputeRomoff s).inb = s.inb := rfl
@[simp] theorem recomputeRomoff_romoff : (recomputeRomoff s).romoff = romPageOffset s.params s.orb s.ddrb := rfl
@[simp] theorem recomputeRomoff_cmd : (recomputeRomoff s).cmd = s.cmd := rfl
@[simp] theorem recomputeRomoff_pcnt : (recomputeRomoff s).pcnt = s.pcnt := rfl
@[simp] theorem recomputeRomoff_pbuf : (recomputeRomoff s).pbuf = s.pbuf := rfl
@[simp] theorem recomputeRomoff_rbuf : (recomputeRomoff s).rbuf = s.rbuf := rfl
@[simp] theorem recomputeRomoff_rcnt : (recomputeRomoff s).rcnt = s.rcnt := rfl
@[simp] theorem recomputeRomoff_pbsnap : (recomputeRomoff s).pbsnap = s.pbsnap := rfl
@[simp] theorem recomputeRomoff_x : (recomputeRomoff s).x = s.x := rfl
@[simp] theorem recomputeRomoff_y : (recomputeRomoff s).y = s.y := rfl
@[simp] theorem recomputeRomoff_px : (recomputeRomoff s).px = s.px := rfl
@[simp] theorem recomputeRomoff_py : (recomputeRomoff s).py = s.py := rfl
@[simp] theorem recomputeRomoff_btn0 : (recomputeRomoff s).btn0 = s.btn0 := rfl
@[simp] theorem recomputeRomoff_btn1 : (recomputeRomoff s).btn1 = s.btn1 := rfl
@[simp] theorem recomputeRomoff_pbtn0 : (recomputeRomoff s).pbtn0 = s.pbtn0 := rfl
@[simp] theorem recomputeRomoff_pbtn1 : (recomputeRomoff s).pbtn1 = s.pbtn1 := rfl
@[simp] theorem recomputeRomoff_mode : (recomputeRomoff s).mode = s.mode := rfl
@[simp] theorem recomputeRomoff_moved : (recomputeRomoff s).moved = s.moved := rfl
@[simp] theorem recomputeRomoff_causeMove : (recomputeRomoff s).causeMove = s.causeMove := rfl
@[simp] theorem recomputeRomoff_causeBtn : (recomputeRomoff s).causeBtn = s.causeBtn := rfl
@[simp] theorem recomputeRomoff_causeRef : (recomputeRomoff s).causeRef = s.causeRef := rfl
@[simp] theorem recomputeRomoff_minx : (recomputeRomoff s).minx = s.minx := rfl
@[simp] theorem recomputeRomoff_maxx : (recomputeRomoff s).maxx = s.maxx := rfl
@[simp] theorem recomputeRomoff_miny : (recomputeRomoff s).miny = s.miny := rfl
@[simp] theorem recomputeRomoff_maxy : (recomputeRomoff s).maxy = s.maxy := rfl
@[simp] theorem recomputeRomoff_rinterval : (recomputeRomoff s).rinterval = s.rinterval := rfl
@[simp] theorem recomputeRomoff_rdeadline : (recomputeRomoff s).rdeadline = s.rdeadline := rfl
@[simp] theorem recomputeRomoff_irq : (recomputeRomoff s).irq = s.irq := rfl
@[simp] theorem recomputeRomoff_dbgwe : (recomputeRomoff s).dbgwe = s.dbgwe := rfl
@[simp] theorem recomputeRomoff_rom : (recomputeRomoff s).rom = s.rom := rfl
@[simp] theorem recomputeRomoff_rstate : (recomputeRomoff s).rstate = s.rstate := rfl
@[simp] theorem recomputeRomoff_params : (recomputeRomoff s).params = s.params := rfl
@[simp] theorem recomputeRomoff_inputs : (recomputeRomoff s).inputs = s.inputs := rfl
@[simp] theorem recomputeRomoff_lastNow : (recomputeRomoff s).lastNow = s.lastNow := rfl
@[simp] theorem recomputeRomoff_out : (recomputeRomoff s).out = s.out := rfl
@[simp] theorem recomputeRomoff_drawn : (recomputeRomoff s).drawn = s.drawn := rfl

/-! The home position. -/

@[simp] theorem homePosition_ddra : (homePosition s).ddra = s.ddra := rfl
@[simp] theorem homePosition_ora : (homePosition s).ora = s.ora := rfl
@[simp] theorem homePosition_cra : (homePosition s).cra = s.cra := rfl
@[simp] theorem homePosition_ina : (homePosition s).ina = s.ina := rfl
@[simp] theorem homePosition_ddrb : (homePosition s).ddrb = s.ddrb := rfl
@[simp] theorem homePosition_orb : (homePosition s).orb = s.orb := rfl
@[simp] theorem homePosition_crb : (homePosition s).crb = s.crb := rfl
@[simp] theorem homePosition_inb : (homePosition s).inb = s.inb := rfl
@[simp] theorem homePosition_romoff : (homePosition s).romoff = s.romoff := rfl
@[simp] theorem homePosition_cmd : (homePosition s).cmd = s.cmd := rfl
@[simp] theorem homePosition_pcnt : (homePosition s).pcnt = s.pcnt := rfl
@[simp] theorem homePosition_pbuf : (homePosition s).pbuf = s.pbuf := rfl
@[simp] theorem homePosition_rbuf : (homePosition s).rbuf = s.rbuf := rfl
@[simp] theorem homePosition_rcnt : (homePosition s).rcnt = s.rcnt := rfl
@[simp] theorem homePosition_pbsnap : (homePosition s).pbsnap = s.pbsnap := rfl
@[simp] theorem homePosition_x : (homePosition s).x = s.minx := rfl
@[simp] theorem homePosition_y : (homePosition s).y = s.miny := rfl
@[simp] theorem homePosition_px : (homePosition s).px = s.minx := rfl
@[simp] theorem homePosition_py : (homePosition s).py = s.miny := rfl
@[simp] theorem homePosition_btn0 : (homePosition s).btn0 = s.btn0 := rfl
@[simp] theorem homePosition_btn1 : (homePosition s).btn1 = s.btn1 := rfl
@[simp] theorem homePosition_pbtn0 : (homePosition s).pbtn0 = s.pbtn0 := rfl
@[simp] theorem homePosition_pbtn1 : (homePosition s).pbtn1 = s.pbtn1 := rfl
@[simp] theorem homePosition_mode : (homePosition s).mode = s.mode := rfl
@[simp] theorem homePosition_moved : (homePosition s).moved = s.moved := rfl
@[simp] theorem homePosition_causeMove : (homePosition s).causeMove = s.causeMove := rfl
@[simp] theorem homePosition_causeBtn : (homePosition s).causeBtn = s.causeBtn := rfl
@[simp] theorem homePosition_causeRef : (homePosition s).causeRef = s.causeRef := rfl
@[simp] theorem homePosition_minx : (homePosition s).minx = s.minx := rfl
@[simp] theorem homePosition_maxx : (homePosition s).maxx = s.maxx := rfl
@[simp] theorem homePosition_miny : (homePosition s).miny = s.miny := rfl
@[simp] theorem homePosition_maxy : (homePosition s).maxy = s.maxy := rfl
@[simp] theorem homePosition_rinterval : (homePosition s).rinterval = s.rinterval := rfl
@[simp] theorem homePosition_rdeadline : (homePosition s).rdeadline = s.rdeadline := rfl
@[simp] theorem homePosition_irq : (homePosition s).irq = s.irq := rfl
@[simp] theorem homePosition_dbgwe : (homePosition s).dbgwe = s.dbgwe := rfl
@[simp] theorem homePosition_rom : (homePosition s).rom = s.rom := rfl
@[simp] theorem homePosition_rstate : (homePosition s).rstate = s.rstate := rfl
@[simp] theorem homePosition_params : (homePosition s).params = s.params := rfl
@[simp] theorem homePosition_inputs : (homePosition s).inputs = s.inputs := rfl
@[simp] theorem homePosition_lastNow : (homePosition s).lastNow = s.lastNow := rfl
@[simp] theorem homePosition_out : (homePosition s).out = s.out := rfl
@[simp] theorem homePosition_drawn : (homePosition s).drawn = s.drawn := rfl

/-! The reclamped position. -/

@[simp] theorem reclamp_ddra : (reclamp s).ddra = s.ddra := rfl
@[simp] theorem reclamp_ora : (reclamp s).ora = s.ora := rfl
@[simp] theorem reclamp_cra : (reclamp s).cra = s.cra := rfl
@[simp] theorem reclamp_ina : (reclamp s).ina = s.ina := rfl
@[simp] theorem reclamp_ddrb : (reclamp s).ddrb = s.ddrb := rfl
@[simp] theorem reclamp_orb : (reclamp s).orb = s.orb := rfl
@[simp] theorem reclamp_crb : (reclamp s).crb = s.crb := rfl
@[simp] theorem reclamp_inb : (reclamp s).inb = s.inb := rfl
@[simp] theorem reclamp_romoff : (reclamp s).romoff = s.romoff := rfl
@[simp] theorem reclamp_cmd : (reclamp s).cmd = s.cmd := rfl
@[simp] theorem reclamp_pcnt : (reclamp s).pcnt = s.pcnt := rfl
@[simp] theorem reclamp_pbuf : (reclamp s).pbuf = s.pbuf := rfl
@[simp] theorem reclamp_rbuf : (reclamp s).rbuf = s.rbuf := rfl
@[simp] theorem reclamp_rcnt : (reclamp s).rcnt = s.rcnt := rfl
@[simp] theorem reclamp_pbsnap : (reclamp s).pbsnap = s.pbsnap := rfl
@[simp] theorem reclamp_x : (reclamp s).x = clampCoord s.params s.x s.minx s.maxx := rfl
@[simp] theorem reclamp_y : (reclamp s).y = clampCoord s.params s.y s.miny s.maxy := rfl
@[simp] theorem reclamp_px : (reclamp s).px = s.px := rfl
@[simp] theorem reclamp_py : (reclamp s).py = s.py := rfl
@[simp] theorem reclamp_btn0 : (reclamp s).btn0 = s.btn0 := rfl
@[simp] theorem reclamp_btn1 : (reclamp s).btn1 = s.btn1 := rfl
@[simp] theorem reclamp_pbtn0 : (reclamp s).pbtn0 = s.pbtn0 := rfl
@[simp] theorem reclamp_pbtn1 : (reclamp s).pbtn1 = s.pbtn1 := rfl
@[simp] theorem reclamp_mode : (reclamp s).mode = s.mode := rfl
@[simp] theorem reclamp_moved : (reclamp s).moved = s.moved := rfl
@[simp] theorem reclamp_causeMove : (reclamp s).causeMove = s.causeMove := rfl
@[simp] theorem reclamp_causeBtn : (reclamp s).causeBtn = s.causeBtn := rfl
@[simp] theorem reclamp_causeRef : (reclamp s).causeRef = s.causeRef := rfl
@[simp] theorem reclamp_minx : (reclamp s).minx = s.minx := rfl
@[simp] theorem reclamp_maxx : (reclamp s).maxx = s.maxx := rfl
@[simp] theorem reclamp_miny : (reclamp s).miny = s.miny := rfl
@[simp] theorem reclamp_maxy : (reclamp s).maxy = s.maxy := rfl
@[simp] theorem reclamp_rinterval : (reclamp s).rinterval = s.rinterval := rfl
@[simp] theorem reclamp_rdeadline : (reclamp s).rdeadline = s.rdeadline := rfl
@[simp] theorem reclamp_irq : (reclamp s).irq = s.irq := rfl
@[simp] theorem reclamp_dbgwe : (reclamp s).dbgwe = s.dbgwe := rfl
@[simp] theorem reclamp_rom : (reclamp s).rom = s.rom := rfl
@[simp] theorem reclamp_rstate : (reclamp s).rstate = s.rstate := rfl
@[simp] theorem reclamp_params : (reclamp s).params = s.params := rfl
@[simp] theorem reclamp_inputs : (reclamp s).inputs = s.inputs := rfl
@[simp] theorem reclamp_lastNow : (reclamp s).lastNow = s.lastNow := rfl
@[simp] theorem reclamp_out : (reclamp s).out = s.out := rfl
@[simp] theorem reclamp_drawn : (reclamp s).drawn = s.drawn := rfl

/-! The feedback bits of a poll: nothing but INB and the count of draws (42_protocol R192). -/

@[simp] theorem driveFeedback_ddra : (driveFeedback s).ddra = s.ddra := by unfold driveFeedback; split <;> rfl
@[simp] theorem driveFeedback_ora : (driveFeedback s).ora = s.ora := by unfold driveFeedback; split <;> rfl
@[simp] theorem driveFeedback_cra : (driveFeedback s).cra = s.cra := by unfold driveFeedback; split <;> rfl
@[simp] theorem driveFeedback_ina : (driveFeedback s).ina = s.ina := by unfold driveFeedback; split <;> rfl
@[simp] theorem driveFeedback_ddrb : (driveFeedback s).ddrb = s.ddrb := by unfold driveFeedback; split <;> rfl
@[simp] theorem driveFeedback_orb : (driveFeedback s).orb = s.orb := by unfold driveFeedback; split <;> rfl
@[simp] theorem driveFeedback_crb : (driveFeedback s).crb = s.crb := by unfold driveFeedback; split <;> rfl
@[simp] theorem driveFeedback_romoff : (driveFeedback s).romoff = s.romoff := by unfold driveFeedback; split <;> rfl
@[simp] theorem driveFeedback_cmd : (driveFeedback s).cmd = s.cmd := by unfold driveFeedback; split <;> rfl
@[simp] theorem driveFeedback_pcnt : (driveFeedback s).pcnt = s.pcnt := by unfold driveFeedback; split <;> rfl
@[simp] theorem driveFeedback_pbuf : (driveFeedback s).pbuf = s.pbuf := by unfold driveFeedback; split <;> rfl
@[simp] theorem driveFeedback_rbuf : (driveFeedback s).rbuf = s.rbuf := by unfold driveFeedback; split <;> rfl
@[simp] theorem driveFeedback_rcnt : (driveFeedback s).rcnt = s.rcnt := by unfold driveFeedback; split <;> rfl
@[simp] theorem driveFeedback_pbsnap : (driveFeedback s).pbsnap = s.pbsnap := by unfold driveFeedback; split <;> rfl
@[simp] theorem driveFeedback_x : (driveFeedback s).x = s.x := by unfold driveFeedback; split <;> rfl
@[simp] theorem driveFeedback_y : (driveFeedback s).y = s.y := by unfold driveFeedback; split <;> rfl
@[simp] theorem driveFeedback_px : (driveFeedback s).px = s.px := by unfold driveFeedback; split <;> rfl
@[simp] theorem driveFeedback_py : (driveFeedback s).py = s.py := by unfold driveFeedback; split <;> rfl
@[simp] theorem driveFeedback_btn0 : (driveFeedback s).btn0 = s.btn0 := by unfold driveFeedback; split <;> rfl
@[simp] theorem driveFeedback_btn1 : (driveFeedback s).btn1 = s.btn1 := by unfold driveFeedback; split <;> rfl
@[simp] theorem driveFeedback_pbtn0 : (driveFeedback s).pbtn0 = s.pbtn0 := by unfold driveFeedback; split <;> rfl
@[simp] theorem driveFeedback_pbtn1 : (driveFeedback s).pbtn1 = s.pbtn1 := by unfold driveFeedback; split <;> rfl
@[simp] theorem driveFeedback_mode : (driveFeedback s).mode = s.mode := by unfold driveFeedback; split <;> rfl
@[simp] theorem driveFeedback_moved : (driveFeedback s).moved = s.moved := by unfold driveFeedback; split <;> rfl
@[simp] theorem driveFeedback_causeMove : (driveFeedback s).causeMove = s.causeMove := by unfold driveFeedback; split <;> rfl
@[simp] theorem driveFeedback_causeBtn : (driveFeedback s).causeBtn = s.causeBtn := by unfold driveFeedback; split <;> rfl
@[simp] theorem driveFeedback_causeRef : (driveFeedback s).causeRef = s.causeRef := by unfold driveFeedback; split <;> rfl
@[simp] theorem driveFeedback_minx : (driveFeedback s).minx = s.minx := by unfold driveFeedback; split <;> rfl
@[simp] theorem driveFeedback_maxx : (driveFeedback s).maxx = s.maxx := by unfold driveFeedback; split <;> rfl
@[simp] theorem driveFeedback_miny : (driveFeedback s).miny = s.miny := by unfold driveFeedback; split <;> rfl
@[simp] theorem driveFeedback_maxy : (driveFeedback s).maxy = s.maxy := by unfold driveFeedback; split <;> rfl
@[simp] theorem driveFeedback_rinterval : (driveFeedback s).rinterval = s.rinterval := by unfold driveFeedback; split <;> rfl
@[simp] theorem driveFeedback_rdeadline : (driveFeedback s).rdeadline = s.rdeadline := by unfold driveFeedback; split <;> rfl
@[simp] theorem driveFeedback_irq : (driveFeedback s).irq = s.irq := by unfold driveFeedback; split <;> rfl
@[simp] theorem driveFeedback_dbgwe : (driveFeedback s).dbgwe = s.dbgwe := by unfold driveFeedback; split <;> rfl
@[simp] theorem driveFeedback_rom : (driveFeedback s).rom = s.rom := by unfold driveFeedback; split <;> rfl
@[simp] theorem driveFeedback_rstate : (driveFeedback s).rstate = s.rstate := by unfold driveFeedback; split <;> rfl
@[simp] theorem driveFeedback_params : (driveFeedback s).params = s.params := by unfold driveFeedback; split <;> rfl
@[simp] theorem driveFeedback_inputs : (driveFeedback s).inputs = s.inputs := by unfold driveFeedback; split <;> rfl
@[simp] theorem driveFeedback_lastNow : (driveFeedback s).lastNow = s.lastNow := by unfold driveFeedback; split <;> rfl
@[simp] theorem driveFeedback_out : (driveFeedback s).out = s.out := by unfold driveFeedback; split <;> rfl

end Sys2Proof.Machine
end

