-- ==== Sys2Proof/Laws/Ops.lean ====
section
/-!
SUPPORT. One lemma for each shared operation that says once everything it can do.
-/

namespace Sys2Proof.Machine

variable (s : State)

/-! ### Registers -/

/-- A write at select 0 as one update (40_pia_registers R122). -/
theorem regWrite0_eq (d : Byte) :
    regWrite0 d s =
      { s with ora := if selOr s.cra then d else s.ora, ddra := if selOr s.cra then s.ddra else d } := by
  unfold regWrite0; split <;> rfl

/-- A write at select 2 as one update (40_pia_registers R126). -/
theorem regWrite2_eq (d : Byte) :
    regWrite2 d s =
      { s with
        orb := if selOr s.crb then d else s.orb, ddrb := if selOr s.crb then s.ddrb else d
        romoff := romPageOffset s.params (if selOr s.crb then d else s.orb) (if selOr s.crb then s.ddrb else d) } := by
  unfold regWrite2; split <;> rfl

/-- The sentinel latch as one update (41_bus_dispatch R154). -/
theorem debugLatch_eq (addr : Addr) (d : Byte) :
    debugLatch addr d s = { s with dbgwe := s.dbgwe || isSentinel s.params addr d } := by
  unfold debugLatch; split <;> simp_all

/-- A sentinel write needs the debug path. -/
theorem debugPresent_of_isSentinel {p : Params} {addr : Addr} {d : Byte} (h : isSentinel p addr d = true) :
    p.debugPresent = true := by
  unfold isSentinel at h; unfold Params.debugPresent; split at h <;> simp_all

/-! ### Interrupt line -/

/-- The assert rule as one update (44_mouse_engine R277). -/
theorem irqEdge_eq (before : Bool) :
    irqEdge before s = { s with irq := s.irq || (!before && anyCause s) } := by
  unfold irqEdge; cases !before && anyCause s <;> simp

/-! ### Detector -/

/-- The detector's three outcomes: only the fingerprint's last address in state 2 reinitialises (70_reset R344). -/
theorem detectorStep_cases (a : Addr) :
    (s.rstate = .waitEntry ∧ a = s.params.resetEntry ∧ detectorStep a s = { reinit s with rstate := .waitLow }) ∨
    (¬ (s.rstate = .waitEntry ∧ a = s.params.resetEntry) ∧ ∃ r, detectorStep a s = { s with rstate := r }) := by
  unfold detectorStep
  split
  · rename_i h
    refine .inr ⟨by simp [h], ?_⟩
    split
    · exact ⟨_, rfl⟩
    · exact ⟨s.rstate, rfl⟩
  · rename_i h
    exact .inr ⟨by simp [h], _, rfl⟩
  · rename_i h
    by_cases ha : a = s.params.resetEntry
    · exact .inl ⟨h, ha, by simp [ha]⟩
    · exact .inr ⟨by simp [ha], .waitLow, by simp [ha]⟩

/-- The end of a Sampler step, case by case (41_bus_dispatch R150). -/
theorem endSample_cases (a : Addr) (answer : Option Byte) :
    (s.rstate = .waitEntry ∧ a = s.params.resetEntry ∧
      endSample a answer s = { reinit s with rstate := .waitLow, out := answer }) ∨
    (¬ (s.rstate = .waitEntry ∧ a = s.params.resetEntry) ∧
      ∃ r, endSample a answer s = { s with rstate := r, out := answer }) := by
  rcases detectorStep_cases { s with out := answer } a with ⟨h1, h2, h3⟩ | ⟨h1, r, h2⟩
  · exact .inl ⟨h1, h2, h3⟩
  · exact .inr ⟨h1, r, h2⟩

/-- What a Sampler step puts out is its answer, whether or not it reinitialises. -/
@[simp] theorem endSample_out (a : Addr) (answer : Option Byte) : (endSample a answer s).out = answer := by
  rcases endSample_cases s a answer with ⟨_, _, h⟩ | ⟨_, r, h⟩ <;> simp [h]

@[simp] theorem endSample_params (a : Addr) (answer : Option Byte) : (endSample a answer s).params = s.params := by
  rcases endSample_cases s a answer with ⟨_, _, h⟩ | ⟨_, r, h⟩ <;> simp [h]

@[simp] theorem endSample_rom (a : Addr) (answer : Option Byte) : (endSample a answer s).rom = s.rom := by
  rcases endSample_cases s a answer with ⟨_, _, h⟩ | ⟨_, r, h⟩ <;> simp [h]

@[simp] theorem endSample_dbgwe (a : Addr) (answer : Option Byte) : (endSample a answer s).dbgwe = s.dbgwe := by
  rcases endSample_cases s a answer with ⟨_, _, h⟩ | ⟨_, r, h⟩ <;> simp [h]

@[simp] theorem endSample_inputs (a : Addr) (answer : Option Byte) : (endSample a answer s).inputs = s.inputs := by
  rcases endSample_cases s a answer with ⟨_, _, h⟩ | ⟨_, r, h⟩ <;> simp [h]

@[simp] theorem endSample_lastNow (a : Addr) (answer : Option Byte) : (endSample a answer s).lastNow = s.lastNow := by
  rcases endSample_cases s a answer with ⟨_, _, h⟩ | ⟨_, r, h⟩ <;> simp [h]

/-! ### Replies and the sequencer -/

/-- The read acknowledge, case by case (42_protocol R182). -/
theorem readAck_cases :
    (s.rcnt = 0 ∧ readAck s = s) ∨
    (∃ n : Nat, s.rcnt = n + 1 ∧
      readAck s = { s with rcnt := n, ina := if n = 0 then 0 else s.rbuf.getD (n - 1) 0 }) := by
  by_cases h : s.rcnt = 0
  · exact .inl ⟨h, by simp [readAck, h]⟩
  · refine .inr ⟨s.rcnt - 1, by omega, ?_⟩
    simp only [readAck, if_neg h, expose, exposedByte]

/-- A delivered byte, case by case (42_protocol R185): a command byte, or a parameter. -/
theorem acceptByte_cases (b : Byte) :
    (s.pcnt.val = 0 ∧ acceptByte b s =
      ({ s with cmd := b, pcnt := paramCount b }, if (paramCount b).val = 0 then some b else none)) ∨
    (∃ (n : Nat) (h : n < 4), s.pcnt.val = n + 1 ∧ acceptByte b s =
      ({ s with pbuf := s.pbuf.set n b, pcnt := ⟨n, by omega⟩ }, if n = 0 then some s.cmd else none)) := by
  by_cases h : s.pcnt.val = 0
  · exact .inl ⟨h, by simp [acceptByte, h]⟩
  · exact .inr ⟨s.pcnt.val - 1, by omega, by omega, by simp only [acceptByte, if_neg h]⟩

/-- A poll writes PBSNAP with port B as it stands (42_protocol R180). -/
theorem pollHandshake_pbsnap : (pollHandshake s).1.pbsnap = portB s := by
  have hack : ∀ u : State, (readAck u).pbsnap = u.pbsnap := fun u => by
    rcases readAck_cases u with ⟨_, h⟩ | ⟨n, _, h⟩ <;> simp [h]
  have hacc : ∀ (b : Byte) (u : State), (acceptByte b u).1.pbsnap = u.pbsnap := fun b u => by
    rcases acceptByte_cases u b with ⟨_, h⟩ | ⟨n, hn, _, h⟩ <;> simp [h]
  simp only [pollHandshake]
  split_ifs <;> simp [hack, hacc]

/-- The mask of a list of bits, bit by bit. -/
theorem getLsbD_bitMask (l : List Nat) (j : Nat) : (bitMask l).getLsbD j = (decide (j < 8) && decide (j ∈ l)) := by
  induction l with
  | nil => simp [bitMask]
  | cons k ks ih =>
    rw [bitMask, BitVec.getLsbD_or, ih, BitVec.getLsbD_shiftLeft, BitVec.getLsbD_one]
    by_cases h : j = k
    · subst h; simp +contextual
    · have : ¬ (k ≤ j ∧ j - k = 0) := by omega
      by_cases hj : j < k <;> simp_all

/-- The feedback bits of a poll are free and the other bits of INB stay (42_protocol R192). -/
theorem driveFeedback_inb_getLsbD (j : Nat) (hj : j < 8) :
    (driveFeedback s).inb.getLsbD j =
      if j ∈ s.params.hsFeedback then (Config.feedback s.drawn).getLsbD j else s.inb.getLsbD j := by
  unfold driveFeedback
  split
  · rename_i h; rw [List.isEmpty_iff] at h; simp [h]
  · by_cases h : j ∈ s.params.hsFeedback <;>
      simp only [BitVec.getLsbD_or, BitVec.getLsbD_and, BitVec.getLsbD_not, getLsbD_bitMask] <;> simp [hj, h]

/-- A poll without feedback bits drives none (42_protocol R192). -/
theorem driveFeedback_of_nil (h : s.params.hsFeedback = []) : driveFeedback s = s := by
  simp [driveFeedback, h]

/-- The poll's feedback as one update (42_protocol R192). -/
theorem driveFeedback_eq :
    driveFeedback s = { s with inb := (driveFeedback s).inb, drawn := (driveFeedback s).drawn } := by
  unfold driveFeedback; split <;> rfl

/-! ### Arithmetic (44_mouse_engine R270, R271) -/

/-- A clamped value lies between the bounds. -/
theorem clamp_bounds {v lo hi : Int} (h : lo ≤ hi) : lo ≤ clamp v lo hi ∧ clamp v lo hi ≤ hi := by
  unfold clamp; omega

/-- An integer that fits is stored exactly (00_scope R7). -/
theorem toCoord_of_fits {p : Params} {n : Nat} (h : n < 2 ^ p.coordW) : toCoord p n = n := by
  unfold toCoord
  have : ((n : Int) % 2 ^ p.coordW) = ((n % 2 ^ p.coordW : Nat) : Int) := by push_cast; rfl
  rw [this, Nat.mod_eq_of_lt h, Int.toNat_natCast]

/-- Whatever is stored fits. -/
theorem toCoord_lt (p : Params) (n : Int) : toCoord p n < 2 ^ p.coordW := by
  have h : (0 : Int) < 2 ^ p.coordW := by positivity
  have h0 := Int.emod_nonneg n h.ne'
  have h1 := Int.emod_lt_of_pos n h
  unfold toCoord
  have : ((2 ^ p.coordW : Nat) : Int) = 2 ^ p.coordW := by push_cast; rfl
  omega

/-- Clamping a coordinate to a maximum that fits is the clamp of numbers. -/
theorem clampCoord_eq (p : Params) {v lo hi : Nat} (hf : hi < 2 ^ p.coordW) :
    clampCoord p v lo hi = min (max v lo) hi := by
  have : clamp v lo hi = ((min (max v lo) hi : Nat) : Int) := by simp [clamp]
  rw [clampCoord, this]
  exact toCoord_of_fits (by omega)

/-- A saturating step from a coordinate stays between 0 and the larger of start and maximum (44_mouse_engine R271). -/
theorem satAdd_range (v : Nat) (d : Int) (lo hi : Nat) :
    0 ≤ satAdd v d lo hi ∧ satAdd v d lo hi ≤ max (v : Int) hi := by
  unfold satAdd; split_ifs <;> omega

/-- A moved coordinate is the saturated sum, exactly (44_mouse_engine R271, 00_scope R7). -/
theorem moveCoord_eq (p : Params) {v : Nat} (d : Int) {lo hi : Nat} (hv : v < 2 ^ p.coordW) (hf : hi < 2 ^ p.coordW) :
    (moveCoord p v d lo hi : Int) = satAdd v d lo hi := by
  obtain ⟨h0, h1⟩ := satAdd_range v d lo hi
  obtain ⟨n, hn⟩ := Int.eq_ofNat_of_zero_le h0
  rw [moveCoord, hn, toCoord_of_fits (by omega)]

/-- A time that fits is stored exactly (44_mouse_engine R279). -/
theorem toTime_of_fits {p : Params} {n : Nat} (h : n < 2 ^ p.timeW) : toTime p n = n := Nat.mod_eq_of_lt h

/-- A 16-bit operand fits every admissible coordinate width (30_encoding R89, R90). -/
theorem word16_lt (hi lo : Byte) : word16 hi lo < 2 ^ 16 := by
  have := hi.isLt; have := lo.isLt; unfold word16; omega

/-- The bounds that set clamp stores are in order, and no larger than the larger one asked for (43_commands R226). -/
theorem clampBounds_ordered (a b : Nat) :
    (clampBounds a b).1 ≤ (clampBounds a b).2 ∧ (clampBounds a b).2 ≤ max a b := by
  unfold clampBounds
  split <;> constructor <;> simp only <;> omega

end Sys2Proof.Machine
end

