-- ==== Sys2Proof/Laws/Exec.lean ====
section
/-!
SUPPORT. What an instruction that answers a next state can have done: one inversion lemma for the samples, one for the
commands, one for the poll.
-/

namespace Sys2Proof.Machine

/-- `execute` is exec of the decoded command (42_protocol R186). -/
theorem execute_eq_exec (c : Byte) (s : State) : execute c s = exec (decodeCommand c) s := by
  have key : ∀ n : Fin 16, (opcode c).toNat = n.val → execute c s = exec (decodeCommand c) s := by
    intro n hn
    unfold execute decodeCommand
    rw [hn]
    fin_cases n <;> rfl
  exact key ⟨(opcode c).toNat, (opcode c).isLt⟩ rfl

/-- What a sample's dispatch leaves alone (20_memory R68). -/
structure DispatchFrame (s u : State) : Prop where
  protocol : sameProtocol s u
  mouse : sameMouse s u
  ina : u.ina = s.ina
  inb : u.inb = s.inb
  rstate : u.rstate = s.rstate
  params : u.params = s.params
  inputs : u.inputs = s.inputs
  lastNow : u.lastNow = s.lastNow
  drawn : u.drawn = s.drawn

theorem dispatchFrame_refl (s : State) : DispatchFrame s s := by constructor <;> simp [sameProtocol, sameMouse]

theorem dispatchFrame_regWrite0 (d : Byte) (s : State) : DispatchFrame s (regWrite0 d s) := by
  rw [regWrite0_eq]; constructor <;> simp [sameProtocol, sameMouse]

theorem dispatchFrame_regWrite1 (d : Byte) (s : State) : DispatchFrame s (regWrite1 d s) := by
  unfold regWrite1; constructor <;> simp [sameProtocol, sameMouse]

theorem dispatchFrame_regWrite2 (d : Byte) (s : State) : DispatchFrame s (regWrite2 d s) := by
  rw [regWrite2_eq]; constructor <;> simp [sameProtocol, sameMouse]

theorem dispatchFrame_regWrite3 (d : Byte) (s : State) : DispatchFrame s (regWrite3 d s) := by
  unfold regWrite3; constructor <;> simp [sameProtocol, sameMouse]

theorem dispatchFrame_debugLatch {s u : State} (addr : Addr) (d : Byte) (h : DispatchFrame s u) :
    DispatchFrame s (debugLatch addr d u) := by
  rw [debugLatch_eq]; exact ⟨h.protocol, h.mouse, h.ina, h.inb, h.rstate, h.params, h.inputs, h.lastNow, h.drawn⟩

theorem dispatchFrame_rom (s : State) (m : List Host.Cell) : DispatchFrame s { s with rom := m } := by
  constructor <;> simp [sameProtocol, sameMouse]

/-- A sample that answers a next state: a dispatch that writes registers, ROM or the debug latch only, then the
detector (41_bus_dispatch R150). -/
theorem sample_inversion {i : Instr} {addr : Addr} {s t : State} (hi : sampleAddr i = some addr)
    (h : exec i s = .next t) :
    ∃ (u : State) (answer : Option Byte), DispatchFrame s u ∧ t = endSample addr answer u := by
  cases i with
  | busWR0 rom a d =>
    cases hi; cases h; exact ⟨_, _, dispatchFrame_debugLatch _ _ (dispatchFrame_regWrite0 _ _), rfl⟩
  | busWR1 rom a d =>
    cases hi; cases h; exact ⟨_, _, dispatchFrame_debugLatch _ _ (dispatchFrame_regWrite1 _ _), rfl⟩
  | busWR2 rom a d =>
    cases hi; cases h; exact ⟨_, _, dispatchFrame_debugLatch _ _ (dispatchFrame_regWrite2 _ _), rfl⟩
  | busWR3 rom a d =>
    cases hi; cases h; exact ⟨_, _, dispatchFrame_debugLatch _ _ (dispatchFrame_regWrite3 _ _), rfl⟩
  | busRR0 rom a => cases hi; cases h; exact ⟨_, _, dispatchFrame_refl s, rfl⟩
  | busRR1 rom a => cases hi; cases h; exact ⟨_, _, dispatchFrame_refl s, rfl⟩
  | busRR2 rom a => cases hi; cases h; exact ⟨_, _, dispatchFrame_refl s, rfl⟩
  | busRR3 rom a => cases hi; cases h; exact ⟨_, _, dispatchFrame_refl s, rfl⟩
  | busRRom a =>
    cases hi
    simp only [exec, execBusRRom] at h
    split at h
    · cases h; exact ⟨_, _, dispatchFrame_refl s, rfl⟩
    · cases h
  | busWRom a d =>
    cases hi
    simp only [exec, execBusWRom] at h
    split at h
    · split at h
      · cases h; exact ⟨_, _, dispatchFrame_rom s _, rfl⟩
      · cases h
    · cases h; exact ⟨_, _, dispatchFrame_refl s, rfl⟩
  | busUnsel rom dev rw a => cases hi; cases h; exact ⟨_, _, dispatchFrame_refl s, rfl⟩
  | busSelNowin rw a => cases hi; cases h; exact ⟨_, _, dispatchFrame_refl s, rfl⟩
  | _ => cases hi

/-- What the handshake part of a poll leaves alone: all but ProtocolState, INA, the feedback bits and the output
(42_protocol R180, R192). -/
structure HandshakeFrame (s u : State) : Prop where
  registers : sameRegisters s u
  inb : u.inb = (driveFeedback s).inb
  drawn : u.drawn = (driveFeedback s).drawn
  mouse : sameMouse s u
  rom : u.rom = s.rom
  dbgwe : u.dbgwe = s.dbgwe
  rstate : u.rstate = s.rstate
  params : u.params = s.params
  inputs : u.inputs = s.inputs
  lastNow : u.lastNow = s.lastNow

theorem handshakeFrame_readAck {s u : State} (h : HandshakeFrame s u) : HandshakeFrame s (readAck u) := by
  rcases readAck_cases u with ⟨_, he⟩ | ⟨n, _, he⟩
  · rw [he]; exact h
  · rw [he]; exact ⟨h.registers, h.inb, h.drawn, h.mouse, h.rom, h.dbgwe, h.rstate, h.params, h.inputs, h.lastNow⟩

theorem handshakeFrame_acceptByte {s u : State} (b : Byte) (h : HandshakeFrame s u) :
    HandshakeFrame s (acceptByte b u).1 := by
  rcases acceptByte_cases u b with ⟨_, he⟩ | ⟨n, hn, _, he⟩ <;>
  · rw [he]; exact ⟨h.registers, h.inb, h.drawn, h.mouse, h.rom, h.dbgwe, h.rstate, h.params, h.inputs, h.lastNow⟩

theorem handshakeFrame_poll (s : State) : HandshakeFrame s (pollHandshake (quiet s)).1 := by
  have h0 : HandshakeFrame s (driveFeedback { quiet s with pbsnap := portB (quiet s) }) := by
    constructor <;> simp [sameRegisters, sameMouse]
    all_goals unfold driveFeedback; split <;> simp_all
  simp only [pollHandshake]
  split_ifs
  · exact handshakeFrame_acceptByte _ (handshakeFrame_readAck h0)
  · exact handshakeFrame_acceptByte _ h0
  · exact handshakeFrame_readAck h0
  · exact h0

/-- A poll: the handshake, then exec of the command it completed, if it completed one (42_protocol R186). -/
theorem protoPoll_eq (s : State) :
    exec .protoPoll s = (match (pollHandshake (quiet s)).2 with
      | some c => exec (decodeCommand c) (pollHandshake (quiet s)).1
      | none => .next (pollHandshake (quiet s)).1) := by
  change finishPoll _ = _
  unfold finishPoll
  split <;> simp_all [execute_eq_exec]

/-- The command a poll completes is the one that `completedCommand` names (42_protocol R185). -/
theorem pollHandshake_command (s : State) : (pollHandshake (quiet s)).2 = completedCommand s := by
  have hr : risen (quiet s) = risen s := rfl
  have ha : portA (quiet s) = portA s := rfl
  have hp : (quiet s).params = s.params := rfl
  have key : ∀ u : State, u.pcnt = s.pcnt → u.cmd = s.cmd →
      (acceptByte (portA s) u).2 =
        if s.pcnt.val = 0 then (if (paramCount (portA s)).val = 0 then some (portA s) else none)
        else if s.pcnt.val = 1 then some s.cmd else none := by
    intro u h1 h2
    rcases acceptByte_cases u (portA s) with ⟨h, he⟩ | ⟨n, hn, h, he⟩
    · rw [he]; simp only [← h1, h]; rfl
    · rw [he]
      have : s.pcnt.val = n + 1 := by rw [← h1]; exact h
      simp [this, h2]
  have hack : ∀ u : State, (readAck u).pcnt = u.pcnt ∧ (readAck u).cmd = u.cmd := fun u => by
    rcases readAck_cases u with ⟨_, h⟩ | ⟨n, _, h⟩ <;> simp [h]
  simp only [pollHandshake, completedCommand, hr, ha, hp]
  split_ifs with h1 h2 h3 h4
  all_goals first
    | rfl
    | (rw [key _ (by simp [hack]) (by simp [hack])]; simp_all)

/-- What no command writes (43_commands: a command writes only the state its rule names). -/
structure CommandFrame (s t : State) : Prop where
  registers : sameRegisters s t
  inb : t.inb = s.inb
  cmd : t.cmd = s.cmd
  pcnt : t.pcnt = s.pcnt
  pbuf : t.pbuf = s.pbuf
  pbsnap : t.pbsnap = s.pbsnap
  btn0 : t.btn0 = s.btn0
  btn1 : t.btn1 = s.btn1
  rom : t.rom = s.rom
  dbgwe : t.dbgwe = s.dbgwe
  rstate : t.rstate = s.rstate
  params : t.params = s.params
  inputs : t.inputs = s.inputs
  lastNow : t.lastNow = s.lastNow
  out : t.out = s.out
  drawn : t.drawn = s.drawn

/-- Every command completes, and writes only reply, INA, MouseState and IRQ (43_commands). -/
theorem command_completes (c : Byte) (s : State) :
    ∃ t, exec (decodeCommand c) s = .next t ∧ CommandFrame s t := by
  rw [← execute_eq_exec]
  unfold execute
  split
  case h_7 =>
    refine ⟨_, rfl, ?_⟩
    cases c.getLsbD 0 <;> constructor <;> simp [sameRegisters]
  all_goals exact ⟨_, rfl, by constructor <;> simp [sameRegisters, stageReply]⟩

/-- The latches of a movement report as one update (44_mouse_engine R273, R274). -/
theorem latchMove_eq (before s : State) :
    latchMove before s =
      { s with
        moved := s.moved || decide (s.x ≠ before.x ∨ s.y ≠ before.y)
        causeMove := s.causeMove || (decide (s.x ≠ before.x ∨ s.y ≠ before.y) && moveIE s) } := by
  unfold latchMove
  split
  · rename_i h; rw [decide_eq_true h]; simp
  · rename_i h; rw [decide_eq_false h]; simp

/-- The refresh timer's four outcomes (44_mouse_engine R276). -/
theorem refreshTimer_cases (now : Nat) (s : State) :
    (refIE s = false ∧ refreshTimer now s = { s with rdeadline := none }) ∨
    (refIE s = true ∧ s.rdeadline = none ∧
      refreshTimer now s = { s with rdeadline := some (toTime s.params (now + s.rinterval)) }) ∨
    (∃ d, refIE s = true ∧ s.rdeadline = some d ∧ d ≤ now ∧
      refreshTimer now s = { s with causeRef := true, rdeadline := some (toTime s.params (d + s.rinterval)) }) ∨
    (∃ d, refIE s = true ∧ s.rdeadline = some d ∧ now < d ∧ refreshTimer now s = s) := by
  unfold refreshTimer
  cases hr : refIE s with
  | false => exact .inl ⟨rfl, by simp⟩
  | true =>
    cases hd : s.rdeadline with
    | none => exact .inr (.inl ⟨rfl, rfl, by simp⟩)
    | some d =>
      by_cases hl : d ≤ now
      · exact .inr (.inr (.inl ⟨d, rfl, rfl, hl, by simp [hl]⟩))
      · exact .inr (.inr (.inr ⟨d, rfl, rfl, by omega, by simp [hl]⟩))

end Sys2Proof.Machine
end

