-- ==== Sys2Proof/Laws/PerInstr.lean ====
section
/-!
SUPPORT. The family RowBits, one lemma per constructor of Instr: the encoder writes a row's fixed bits as
spec/opcode_table.json gives them.
-/

namespace Sys2Proof.Laws.RowBits

open Sys2Proof

/-- The word or byte that encodes a well-formed instruction has the fixed bits of the instruction's own row. -/
def Statement (i : Instr) : Prop :=
  i.wellFormed →
    match encode i with
    | .stimulus (.sample w _) => ∃ r ∈ sampleRows, r.mnemonic = i.mnemonic ∧ r.covers w = true
    | .stimulus _ => True
    | .command c => ∃ r ∈ commandRows, r.mnemonic = i.mnemonic ∧ r.covers c = true

/-- The mask of a device-register row keeps SEL, DEV, RW and the register select (30_encoding R82). -/
theorem device_bits (rom rw : Bool) (addr : Addr) :
    sampleWord true rom true rw addr &&& 0xb0003 =
      0xa0000 ||| flagBit rw 16 ||| (addr.extractLsb' 0 2).setWidth 20 := by
  apply BitVec.eq_of_getLsbD_eq
  intro i hi
  simp only [sampleWord, BitVec.getLsbD_or, BitVec.getLsbD_and, getLsbD_flagBit, BitVec.getLsbD_setWidth,
    BitVec.getLsbD_extractLsb']
  interval_cases i <;> simp

/-- The mask of a row outside the device window keeps some of the flags (30_encoding R81). -/
theorem flag_bits (sel rom dev rw : Bool) (addr : Addr) (m3 m2 m1 m0 : Bool) :
    sampleWord sel rom dev rw addr &&& (flagBit m3 19 ||| flagBit m2 18 ||| flagBit m1 17 ||| flagBit m0 16) =
      flagBit (sel && m3) 19 ||| flagBit (rom && m2) 18 ||| flagBit (dev && m1) 17 ||| flagBit (rw && m0) 16 := by
  apply BitVec.eq_of_getLsbD_eq
  intro i hi
  simp only [sampleWord, BitVec.getLsbD_or, BitVec.getLsbD_and, getLsbD_flagBit, BitVec.getLsbD_setWidth]
  interval_cases i <;> simp

theorem busWR0 (rom : Bool) (addr : Addr) (d : Byte) : Statement (.busWR0 rom addr d) := fun h =>
  ⟨sampleRows[0], by decide, rfl, by
    simp only [Row.covers, sampleRows, List.getElem_cons_zero, device_bits]
    rw [show addr.extractLsb' 0 2 = 0#2 from h]; decide⟩

theorem busRR0 (rom : Bool) (addr : Addr) : Statement (.busRR0 rom addr) := fun h =>
  ⟨sampleRows[1], by decide, rfl, by
    simp only [Row.covers, sampleRows, List.getElem_cons_zero, List.getElem_cons_succ, device_bits]
    rw [show addr.extractLsb' 0 2 = 0#2 from h]; decide⟩

theorem busWR1 (rom : Bool) (addr : Addr) (d : Byte) : Statement (.busWR1 rom addr d) := fun h =>
  ⟨sampleRows[2], by decide, rfl, by
    simp only [Row.covers, sampleRows, List.getElem_cons_zero, List.getElem_cons_succ, device_bits]
    rw [show addr.extractLsb' 0 2 = 1#2 from h]; decide⟩

theorem busRR1 (rom : Bool) (addr : Addr) : Statement (.busRR1 rom addr) := fun h =>
  ⟨sampleRows[3], by decide, rfl, by
    simp only [Row.covers, sampleRows, List.getElem_cons_zero, List.getElem_cons_succ, device_bits]
    rw [show addr.extractLsb' 0 2 = 1#2 from h]; decide⟩

theorem busWR2 (rom : Bool) (addr : Addr) (d : Byte) : Statement (.busWR2 rom addr d) := fun h =>
  ⟨sampleRows[4], by decide, rfl, by
    simp only [Row.covers, sampleRows, List.getElem_cons_zero, List.getElem_cons_succ, device_bits]
    rw [show addr.extractLsb' 0 2 = 2#2 from h]; decide⟩

theorem busRR2 (rom : Bool) (addr : Addr) : Statement (.busRR2 rom addr) := fun h =>
  ⟨sampleRows[5], by decide, rfl, by
    simp only [Row.covers, sampleRows, List.getElem_cons_zero, List.getElem_cons_succ, device_bits]
    rw [show addr.extractLsb' 0 2 = 2#2 from h]; decide⟩

theorem busWR3 (rom : Bool) (addr : Addr) (d : Byte) : Statement (.busWR3 rom addr d) := fun h =>
  ⟨sampleRows[6], by decide, rfl, by
    simp only [Row.covers, sampleRows, List.getElem_cons_zero, List.getElem_cons_succ, device_bits]
    rw [show addr.extractLsb' 0 2 = 3#2 from h]; decide⟩

theorem busRR3 (rom : Bool) (addr : Addr) : Statement (.busRR3 rom addr) := fun h =>
  ⟨sampleRows[7], by decide, rfl, by
    simp only [Row.covers, sampleRows, List.getElem_cons_zero, List.getElem_cons_succ, device_bits]
    rw [show addr.extractLsb' 0 2 = 3#2 from h]; decide⟩

theorem busRRom (addr : Addr) : Statement (.busRRom addr) := fun _ =>
  ⟨sampleRows[8], by decide, rfl, by
    have := flag_bits true true false true addr true true true true
    exact beq_iff_eq.2 this⟩

theorem busWRom (addr : Addr) (d : Byte) : Statement (.busWRom addr d) := fun _ =>
  ⟨sampleRows[9], by decide, rfl, by
    have := flag_bits true true false false addr true true true true
    exact beq_iff_eq.2 this⟩

theorem busUnsel (rom dev rw : Bool) (addr : Addr) : Statement (.busUnsel rom dev rw addr) := fun _ =>
  ⟨sampleRows[10], by decide, rfl, by
    have := flag_bits false rom dev rw addr true false false false
    simp only [Bool.and_false, Bool.and_true] at this
    exact beq_iff_eq.2 this⟩

theorem busSelNowin (rw : Bool) (addr : Addr) : Statement (.busSelNowin rw addr) := fun _ =>
  ⟨sampleRows[11], by decide, rfl, by
    have := flag_bits true false false rw addr true true true false
    simp only [Bool.and_false, Bool.and_true] at this
    exact beq_iff_eq.2 this⟩

theorem setMode (m : BitVec 4) : Statement (.setMode m) := fun _ =>
  ⟨commandRows[0], by decide, rfl, by revert m; decide⟩

theorem readStatus (sub : BitVec 4) : Statement (.readStatus sub) := fun _ =>
  ⟨commandRows[1], by decide, rfl, by revert sub; decide⟩

theorem serve (sub : BitVec 4) : Statement (.serve sub) := fun _ =>
  ⟨commandRows[2], by decide, rfl, by revert sub; decide⟩

theorem clearPos (sub : BitVec 4) : Statement (.clearPos sub) := fun _ =>
  ⟨commandRows[3], by decide, rfl, by revert sub; decide⟩

theorem setPos (sub : BitVec 4) : Statement (.setPos sub) := fun _ =>
  ⟨commandRows[4], by decide, rfl, by revert sub; decide⟩

theorem init (sub : BitVec 4) : Statement (.init sub) := fun _ =>
  ⟨commandRows[5], by decide, rfl, by revert sub; decide⟩

theorem setClamp (sub : BitVec 3) (axisY : Bool) : Statement (.setClamp sub axisY) := fun _ =>
  ⟨commandRows[6], by decide, rfl, by revert sub axisY; decide⟩

theorem home (sub : BitVec 4) : Statement (.home sub) := fun _ =>
  ⟨commandRows[7], by decide, rfl, by revert sub; decide⟩

theorem nop8 (sub : BitVec 4) : Statement (.nop8 sub) := fun _ =>
  ⟨commandRows[8], by decide, rfl, by revert sub; decide⟩

theorem setTiming (count : BitVec 2) (ignored hz50 : Bool) : Statement (.setTiming count ignored hz50) := fun _ =>
  ⟨commandRows[9], by decide, rfl, by revert count ignored hz50; decide⟩

theorem vendor (sub : BitVec 4) : Statement (.vendor sub) := fun _ =>
  ⟨commandRows[10], by decide, rfl, by revert sub; decide⟩

theorem nopB (sub : BitVec 4) : Statement (.nopB sub) := fun _ =>
  ⟨commandRows[11], by decide, rfl, by revert sub; decide⟩

theorem nopC (sub : BitVec 4) : Statement (.nopC sub) := fun _ =>
  ⟨commandRows[12], by decide, rfl, by revert sub; decide⟩

theorem nopD (sub : BitVec 4) : Statement (.nopD sub) := fun _ =>
  ⟨commandRows[13], by decide, rfl, by revert sub; decide⟩

theorem nopE (sub : BitVec 4) : Statement (.nopE sub) := fun _ =>
  ⟨commandRows[14], by decide, rfl, by revert sub; decide⟩

theorem nopF (sub : BitVec 4) : Statement (.nopF sub) := fun _ =>
  ⟨commandRows[15], by decide, rfl, by revert sub; decide⟩

theorem protoPoll : Statement (.protoPoll) := fun _ => trivial

theorem move (dx dy : Int) : Statement (.move dx dy) := fun _ => trivial

theorem button (i : Nat) (p : Bool) : Statement (.button i p) := fun _ => trivial

theorem refreshPoll (now : Nat) : Statement (.refreshPoll now) := fun _ => trivial

theorem setInput (port : Port) (v : Byte) : Statement (.setInput port v) := fun _ => trivial

theorem reinitialize : Statement (.reinitialize) := fun _ => trivial

end Sys2Proof.Laws.RowBits
end

