-- ==== Sys2Proof/Tests/Slice0.lean ====
section
/-!
SUPPORT. The model's own tests: ill-formed terms refused, words written out from 30_encoding decoded, one-step tests
with results from 95_test_vectors (V-..., SRC-..., P...) or a rule's own example, and for every obligation with
hypotheses a state and operands that meet them.
-/

namespace Sys2Proof.Tests

open Sys2Proof Sys2Proof.Machine
open Host (Outcome)

/-! ### States and readers of the tests -/

/-- The state at the end of setup S0 of 95_test_vectors. -/
def ready : State := { State.reset with ddra := 0xFF, cra := 0x04, ddrb := 0x3E, crb := 0x04 }

/-- `ready` with byte `b` on port A and the write-request bit risen, idle. -/
def offering (b : Byte) : State := { ready with ora := b, orb := 0x10 }

/-- `offering` with the read-acknowledge bit risen too, and a five-byte reply pending (V-PROT-4). -/
def bothEdges : State :=
  { ready with
    ora := 0x20, orb := 0x30, mode := 0x3, x := 5, px := 5, moved := false, causeMove := true, irq := true
    rbuf := [0x22, 0, 0, 0, 5, 0, 0, 0], rcnt := 5, ina := 5 }

/-- One field of the next state. -/
def field {α : Type} (o : Outcome State Fault Refusal) (f : State → α) : Option α :=
  match o with
  | .next s => some (f s)
  | _ => none

/-- The name of a refusal. -/
def refusal (o : Outcome State Fault Refusal) : Option Refusal :=
  match o with
  | .refused r => some r
  | _ => none

/-! ### WellFormed refuses an ill-formed term of each kind -/

theorem test_refuses_write_select0 : ¬ (Instr.busWR0 false 0xC0C1 0).wellFormed := by decide
theorem test_refuses_read_select0 : ¬ (Instr.busRR0 false 0xC0C2).wellFormed := by decide
theorem test_refuses_write_select1 : ¬ (Instr.busWR1 false 0xC0C0 0).wellFormed := by decide
theorem test_refuses_read_select1 : ¬ (Instr.busRR1 false 0xC0C3).wellFormed := by decide
theorem test_refuses_write_select2 : ¬ (Instr.busWR2 false 0xC0C3 0).wellFormed := by decide
theorem test_refuses_read_select2 : ¬ (Instr.busRR2 false 0xC0C0).wellFormed := by decide
theorem test_refuses_write_select3 : ¬ (Instr.busWR3 false 0xC0C2 0).wellFormed := by decide
theorem test_refuses_read_select3 : ¬ (Instr.busRR3 false 0xC0C1).wellFormed := by decide
theorem test_refuses_delta : ¬ (Instr.move 128 0).wellFormed ∧ ¬ (Instr.move 0 (-129)).wellFormed := by decide
theorem test_refuses_button : ¬ (Instr.button 2 true).wellFormed := by decide

/-! ### Decoding: words written from R81 (SEL ROM DEV RW, address) and bytes from R86 -/

theorem test_decode_device_rows :
    decodeSample 0b1010_1100000011000000 0xFF = .busWR0 false 0xC0C0 0xFF ∧
    decodeSample 0b1011_1100000011000000 0 = .busRR0 false 0xC0C0 ∧
    decodeSample 0b1010_1100000011000001 0x04 = .busWR1 false 0xC0C1 0x04 ∧
    decodeSample 0b1011_1100000011000001 0 = .busRR1 false 0xC0C1 ∧
    decodeSample 0b1010_1100000011000010 0x3E = .busWR2 false 0xC0C2 0x3E ∧
    decodeSample 0b1011_1100000011000010 0 = .busRR2 false 0xC0C2 ∧
    decodeSample 0b1010_1100000011000011 0x04 = .busWR3 false 0xC0C3 0x04 ∧
    decodeSample 0b1011_1100000011000011 0 = .busRR3 false 0xC0C3 := by decide

theorem test_decode_other_samples :
    decodeSample 0b1101_1100010000010111 0 = .busRRom 0xC417 ∧
    decodeSample 0b1100_1100010000000000 0x12 = .busWRom 0xC400 0x12 ∧
    decodeSample 0b0001_1111111111111100 0 = .busUnsel false false true 0xFFFC ∧
    decodeSample 0b1000_1100000011010000 0 = .busSelNowin false 0xC0D0 := by decide

/-- Aliases and precedence: bits 15:2 of a device address do not select (V-PIA-6), DEV wins over ROM (R152), and an
unselected sample is BUS_UNSEL whatever its windows say. -/
theorem test_decode_sample_corners :
    decodeSample 0xBC0CC 0 = .busRR0 false 0xC0CC ∧ decodeSample 0xEC0C3 7 = .busWR3 true 0xC0C3 7 ∧
    decodeSample 0x7C0C0 0 = .busUnsel true true true 0xC0C0 := by decide

theorem test_decode_commands :
    decodeCommand 0b0000_1011 = .setMode 0xB ∧ decodeCommand 0b0001_0000 = .readStatus 0 ∧
    decodeCommand 0b0010_0000 = .serve 0 ∧ decodeCommand 0b0011_0000 = .clearPos 0 ∧
    decodeCommand 0b0100_0000 = .setPos 0 ∧ decodeCommand 0b0101_0000 = .init 0 ∧
    decodeCommand 0b0110_0001 = .setClamp 0 true ∧ decodeCommand 0b0111_0000 = .home 0 ∧
    decodeCommand 0b1000_1111 = .nop8 0xF ∧ decodeCommand 0b1001_0101 = .setTiming 1 false true ∧
    decodeCommand 0b1010_0101 = .vendor 5 ∧ decodeCommand 0b1011_0000 = .nopB 0 ∧
    decodeCommand 0b1100_0011 = .nopC 3 ∧ decodeCommand 0b1101_0111 = .nopD 7 ∧
    decodeCommand 0b1110_1110 = .nopE 0xE ∧ decodeCommand 0b1111_1111 = .nopF 0xF := by decide

theorem test_decode_actions :
    decodeStimulus .protoPoll = .protoPoll ∧ decodeStimulus (.move (-24) 0) = .move (-24) 0 ∧
    decodeStimulus (.button 0 true) = .button 0 true ∧ decodeStimulus (.refreshPoll 1000) = .refreshPoll 1000 ∧
    decodeStimulus (.setInput .B 0x80) = .setInput .B 0x80 ∧ decodeStimulus .reinitialize = .reinitialize := by decide

/-- V-CMD-9 and R87: the parameter counts. -/
theorem test_param_counts :
    [0x90, 0x95, 0x98, 0x9C, 0x9F, 0x40, 0x61, 0xA0, 0x10, 0xFF].map (fun c => (paramCount c).val) =
      [0, 1, 2, 3, 3, 4, 4, 1, 0, 0] := by decide

/-- The table's numbering: a command row of 8 bits, a sample row of 20 bits in three bytes, a bit too many refused. -/
theorem test_table_words :
    decodeTableWord 8 0x95 = some (.setTiming 1 false true) ∧
    decodeTableWord 24 0xDC417 = some (.busRRom 0xC417) ∧ decodeTableWord 24 0x1DC417 = none := by decide

/-- The next step runs a placed command, and a placed sample. -/
theorem test_fetch_command : field (step (State.reset.withFetchWord 8 0x0B)) State.mode = some 0xB := by decide
theorem test_fetch_sample : field (step (State.reset.withFetchWord 24 0x1FFFC)) State.rstate = some .waitHigh := by decide

/-- R311: a selected sample outside both windows (V-BUS-5's word), and a device access outside the device window, get no
step; a device access inside it does. -/
theorem test_flags_disagree :
    refusal (step { State.reset with inputs := [.sample 0x8C0D0 0] }) = some .sampleFlagsDisagree ∧
    refusal (step { State.reset with inputs := [.sample 0xBC0D0 0] }) = some .sampleFlagsDisagree ∧
    field (step { State.reset with inputs := [.sample 0xBC0C0 0] }) State.out = some (some 0) := by decide

/-! ### PIA registers (95_test_vectors 2.1) -/

/-- V-PIA-3. -/
theorem test_write_select0_output :
    field (exec (.busWR0 false 0xC0C0 0x55) { State.reset with cra := 0x3F }) (fun t => (t.ora, t.ddra)) =
      some (0x55, 0) := by decide

/-- V-PIA-4. -/
theorem test_write_select0_direction :
    field (exec (.busWR0 false 0xC0C0 0xFF) State.reset) (fun t => (t.ora, t.ddra)) = some (0, 0xFF) := by decide

/-- V-PIA-5. -/
theorem test_read_select0_composite :
    field (exec (.busRR0 false 0xC0C0) { State.reset with cra := 0x04, ddra := 0x0F, ora := 0x35, ina := 0xC8 })
      State.out = some (some 0xC5) := by decide

/-- V-PIA-1. -/
theorem test_read_select0_direction :
    field (exec (.busRR0 false 0xC0C0) State.reset) State.out = some (some 0) := by decide

/-- V-PIA-2. -/
theorem test_write_select1 :
    field (exec (.busWR1 false 0xC0C1 0xFF) State.reset) (fun t => (t.cra, t.out)) = some (0x3F, none) := by decide

/-- V-PIA-2. -/
theorem test_read_select1 :
    field (exec (.busRR1 false 0xC0C1) { State.reset with cra := 0x3F }) State.out = some (some 0x3F) := by decide

/-- V-PIA-7. -/
theorem test_write_select2_page :
    field (exec (.busWR2 false 0xC0C2 0x06) ready) (fun t => (t.orb, t.romoff)) = some (0x06, 0x300) := by decide

/-- V-PIA-9. -/
theorem test_write_select2_direction :
    field (exec (.busWR2 false 0xC0C2 0x30) { ready with crb := 0, orb := 0x3E, romoff := 0x700 })
      (fun t => (t.ddrb, t.orb, t.romoff)) = some (0x30, 0x3E, 0) := by decide

/-- V-PIA-10. -/
theorem test_read_select2 :
    field (exec (.busRR2 false 0xC0C2) { ready with orb := 0x16, inb := 0xC1 }) State.out = some (some 0xD7) := by decide

/-- V-PIA-11. -/
theorem test_write_select3 : field (exec (.busWR3 false 0xC0C3 0xC4) State.reset) State.crb = some 0x04 := by decide

/-- R129's example. -/
theorem test_read_select3 :
    field (exec (.busRR3 false 0xC0C3) { State.reset with crb := 0x3B }) State.out = some (some 0x3B) := by decide

/-! ### Bus dispatch (95_test_vectors 2.2) -/

/-- V-BUS-1. -/
theorem test_rom_read :
    field (exec (.busRRom 0xC417) { ready with orb := 0x06, romoff := 0x300 }) State.out =
      some (some (Config.romImage 0x317)) := rfl

/-- V-BUS-3. -/
theorem test_rom_write_rejected :
    field (exec (.busWRom 0xC400 0x12) State.reset) (fun t => (t.rom, t.out)) = some ([], none) := by decide

/-- A state with the debug path and its latch set. -/
def debugging : State :=
  { State.reset with params := { Params.default with debugPath := some ⟨4, 0x5A⟩ }, dbgwe := true }

/-- R158 with the debug path: the byte stored reads back. -/
theorem test_rom_write_stored :
    field (exec (.busWRom 0xC412 0x77) debugging) (fun t => Memory.read t.rom 0x12) = some 0x77 :=
  congrArg some (memory_read_write_same (m := []) 0x12 0x77 ⟨List.Pairwise.nil, by simp⟩)

/-- R154: the sentinel write sets the latch and performs its register write; another byte does not. -/
theorem test_sentinel :
    field (exec (.busWR0 false 0xC0C4 0x5A) { debugging with dbgwe := false }) (fun t => (t.dbgwe, t.ddra)) =
      some (true, 0x5A) ∧
    field (exec (.busWR0 false 0xC0C4 0x5B) { debugging with dbgwe := false }) State.dbgwe = some false := by decide

/-- V-BUS-6. -/
theorem test_unselected :
    field (exec (.busUnsel false false true 0xFFFC) State.reset) (fun t => (t.rstate, t.out)) =
      some (.waitHigh, none) := by decide

/-- V-RST-1's last sample: the fingerprint reinitialises. -/
theorem test_fingerprint :
    field (exec (.busUnsel false false true 0xFA62) { ready with x := 21, minx := 16, rstate := .waitEntry })
      (fun t => (t.x, t.minx, t.maxx, t.ddra, t.rstate)) = some (0, 0, 1023, 0, .waitLow) := by decide

/-- V-BUS-5, and V-RST-3: RV_LO in state 1 gives state 0. -/
theorem test_selected_no_window :
    field (exec (.busSelNowin false 0xC0D0) ready) (fun t => (t.out, t.orb, t.rstate)) = some (none, 0, .waitLow) ∧
    field (exec (.busSelNowin true 0xFFFC) { ready with rstate := .waitHigh }) State.rstate = some .waitLow := by decide

/-! ### Commands (95_test_vectors 2.4) -/

/-- V-CMD-1, V-CMD-2. -/
theorem test_set_mode :
    field (exec (.setMode 0xB) ready) (fun t => (t.mode, moveIE t, btnIE t, refIE t)) =
      some (0xB, true, false, true) ∧
    field (exec (.setMode 0x6) ready) (fun t => (moveIE t, btnIE t, refIE t)) = some (false, false, false) := by decide

/-- V-CMD-3: X = 999 = 0x3E7, Y = 1023 = 0x3FF. -/
theorem test_read_status :
    field (exec (.readStatus 0) { ready with x := 999, y := 1023, btn0 := true, moved := true })
      (fun t => (t.rbuf.take 5, t.rcnt, t.ina, t.moved, t.px, t.pbtn0)) =
      some ([0xA0, 0x03, 0xFF, 0x03, 0xE7], 5, 0xE7, false, 999, true) := by decide

/-- V-CMD-4, the second status. -/
theorem test_read_status_second :
    field (exec (.readStatus 0) { ready with pbtn1 := true, causeBtn := true }) (fun t => (t.rbuf.head?, t.pbtn1)) =
      some (some 0x05, false) := by decide

/-- SRC-6. -/
theorem test_serve :
    field (exec (.serve 0)
      { ready with mode := 0xF, causeMove := true, causeBtn := true, causeRef := true, irq := true, moved := true })
      (fun t => (t.rbuf.head?, t.rcnt, t.irq, anyCause t, t.moved)) = some (some 0x0E, 1, false, false, true) := by decide

/-- V-CMD-7. -/
theorem test_clear_position :
    field (exec (.clearPos 0) { ready with x := 500, y := 20, px := 400 }) (fun t => (t.x, t.y, t.px)) =
      some (0, 0, 400) := by decide

/-- V-CMD-8, SRC-8. -/
theorem test_set_position_clamped :
    field (exec (.setPos 0) { ready with pbuf := [0x56, 0x78, 0x12, 0x34, 0, 0, 0, 0] })
      (fun t => (t.x, t.y, t.px, t.py)) = some (1023, 1023, 1023, 1023) := by decide

/-- V-CMD-8b. -/
theorem test_set_position :
    field (exec (.setPos 0) { ready with pbuf := [0x00, 0xC8, 0x01, 0x2C, 0, 0, 0, 0] })
      (fun t => (t.x, t.y, t.px, t.py)) = some (300, 200, 300, 200) := by decide

/-- V-CMD-10. -/
theorem test_init :
    field (exec (.init 0)
      { ready with mode := 3, minx := 100, maxx := 200, maxy := 50, x := 101, causeMove := true, irq := true })
      (fun t => (t.maxx, t.maxy, t.x, t.irq, t.causeMove)) =
      some (1023, 1023, 0, false, true) := by decide

/-- V-CMD-11. -/
theorem test_set_clamp_inverted :
    field (exec (.setClamp 0 false) { ready with x := 900, pbuf := [0x01, 0x03, 0x00, 0x00, 0, 0, 0, 0] })
      (fun t => (t.minx, t.maxx, t.x, t.maxy)) = some (0, 512, 512, 1023) := by decide

/-- V-CMD-12: the exact sum 131069 halved. -/
theorem test_set_clamp_exact_sum :
    field (exec (.setClamp 0 true) { ready with pbuf := [0xFF, 0xFF, 0xFE, 0xFF, 0, 0, 0, 0] })
      (fun t => (t.miny, t.maxy, t.maxx)) = some (0, 65534, 1023) := by decide

/-- V-CMD-14. -/
theorem test_home :
    field (exec (.home 0) { ready with maxx := 512, miny := 10, x := 7, y := 20 })
      (fun t => (t.x, t.px, t.y, t.py)) = some (0, 0, 10, 10) := by decide

/-- R229's example; V-CMD-9b's rate. -/
theorem test_set_timing :
    field (exec (.setTiming 1 false true) ready) State.rinterval = some 20000 ∧
    field (exec (.setTiming 0 false false) { ready with rinterval := 20000 }) State.rinterval = some 16666 := by decide

/-- V-CMD-17: the last byte of `0xA5, 0x99`. -/
theorem test_vendor :
    field (exec .protoPoll { offering 0x99 with cmd := 0xA5, pcnt := 1 }) (fun t => (t.cmd, t.pbuf.head?, t.pcnt, t.rcnt)) =
      some (0xA5, some 0x99, 0, 0) := by decide

/-- V-CMD-15, V-CMD-16: only CMD changes. -/
theorem test_unimplemented :
    [0x8F, 0xB0, 0xC3, 0xD7, 0xEE, 0xFF].map (fun c =>
      field (exec .protoPoll (offering c)) (fun t => decide (t = { offering c with cmd := c, pbsnap := 0x10 }))) =
      List.replicate 6 (some true) := by decide

/-! ### Protocol machine (95_test_vectors 2.3) -/

/-- V-PROT-4: the acknowledge first, then SERVE. -/
theorem test_poll_both_edges :
    field (exec .protoPoll bothEdges) (fun t => (t.rcnt, t.ina, t.rbuf.head?, t.causeMove, t.irq)) =
      some (1, 0x02, some 0x02, false, false) := by decide

/-- V-PROT-3: an acknowledge with nothing pending. -/
theorem test_poll_empty_acknowledge :
    field (exec .protoPoll { ready with orb := 0x20 }) (fun t => (t.rcnt, t.ina, t.pbsnap, t.cmd)) =
      some (0, 0, 0x20, 0) := by decide

/-! ### Mouse engine (95_test_vectors 2.5) -/

/-- V-ENG-1. -/
theorem test_move_saturates :
    field (exec (.move 10 0) { ready with x := 1020, mode := 3 }) (fun t => (t.x, t.moved, t.causeMove, t.irq)) =
      some (1023, true, true, true) := by decide

/-- V-ENG-5: below the minimum the position is not pushed further out, and never moves against the travel. -/
theorem test_move_outside_rectangle :
    field (exec (.move (-10) 0) { ready with x := 5, minx := 100, maxx := 400 }) (fun t => (t.x, t.moved)) =
      some (5, false) ∧
    field (exec (.move (-128) 0) { ready with x := 132, minx := 100, maxx := 400 }) State.x = some 100 := by decide

/-- V-ENG-6. -/
theorem test_button :
    field (exec (.button 0 true) { ready with mode := 5 }) (fun t => (t.btn0, t.btn1, t.causeBtn, t.irq)) =
      some (true, false, true, true) := by decide

/-- R275 with btnIE = 0, button 1. -/
theorem test_button_masked :
    field (exec (.button 1 true) { ready with mode := 4 }) (fun t => (t.btn0, t.btn1, t.causeBtn, t.irq)) =
      some (false, true, false, false) := by decide

/-- V-ENG-8: arm, and fire at the deadline. -/
theorem test_refresh :
    field (exec (.refreshPoll 1000) { ready with mode := 9 }) (fun t => (t.rdeadline, t.causeRef)) =
      some (some 17666, false) ∧
    field (exec (.refreshPoll 17666) { ready with mode := 9, rdeadline := some 17666, lastNow := 17665 })
      (fun t => (t.rdeadline, t.causeRef, t.irq)) = some (some 34332, true, true) := by decide

/-- R311's time bound, and with a narrower TIME_W. -/
theorem test_refuses_time :
    refusal (exec (.refreshPoll (2 ^ 64 - 20000)) ready) = some .timeOutOfRange ∧
    refusal (exec (.refreshPoll (2 ^ 32 - 20000)) { ready with params := { Params.default with timeW := 32 } }) =
      some .timeOutOfRange := by decide

/-- V-ENG-11: cleared while disabled, the cause stays. -/
theorem test_refresh_disabled :
    field (exec (.refreshPoll 200000) { ready with mode := 1, rdeadline := some 84330, causeRef := true })
      (fun t => (t.rdeadline, t.causeRef)) = some (none, true) := by decide

/-- V-BUS-9. -/
theorem test_set_input :
    field (exec (.setInput .B 0x80) ready) (fun t => (t.inb, portB t, t.ina, t.romoff)) =
      some (0x80, 0x80, 0, 0) := by decide

/-- R192: with feedback bits a poll leaves every other bit of INB and counts the draw. -/
theorem test_poll_feedback :
    let s := { ready with params := { Params.default with hsFeedback := [7] }, inb := 0x41 }
    field (exec .protoPoll s) State.drawn = some 1 ∧ ∀ j < 7, (driveFeedback s).inb.getLsbD j = s.inb.getLsbD j :=
  ⟨by decide, fun j hj => by rw [driveFeedback_inb_getLsbD _ _ (by omega), if_neg (by simp; omega)]⟩

/-- R341: what an outside reinitialisation sets and what it leaves. -/
theorem test_reinitialize :
    field (exec .reinitialize { debugging with x := 5, maxy := 9, rinterval := 20000, irq := true, rstate := .waitHigh })
      (fun t => (t.x, t.maxy, t.rinterval, t.irq, t.dbgwe, t.rstate)) =
      some (0, 1023, 16666, false, true, .waitHigh) := by decide

/-! ### Witnesses: for every obligation with hypotheses, a state and operands that meet them -/

/-- A state in the middle of a run: a refresh deadline armed, a cause latched, the line up, page 3 selected, a rectangle
away from the origin. -/
def busy : State :=
  { ready with
    orb := 0x06, romoff := 0x300, pbsnap := 0x06, mode := 0xF, x := 150, y := 10, minx := 100, maxx := 200, miny := 10
    causeMove := true, irq := true, moved := true, rdeadline := some 21000, lastNow := 5000, rinterval := 16666 }

theorem witness_inv_busy : Inv busy where
  params := by decide
  romoff := by decide
  clampX := by decide
  clampY := by decide
  coords := by decide
  replies := by decide
  pbufLength := by decide
  rbufLength := by decide
  pbufTail := by decide
  rbufTail := by decide
  awaiting := by decide
  interval := by decide
  deadline := fun d h => by cases h; decide
  time := by decide
  irqCause := by decide
  debug := by decide
  romForm := by decide
  romSize := by decide

theorem witness_inv_debugging : Inv debugging where
  params := by decide
  romoff := by decide
  clampX := by decide
  clampY := by decide
  coords := by decide
  replies := by decide
  pbufLength := by decide
  rbufLength := by decide
  pbufTail := by decide
  rbufTail := by decide
  awaiting := by decide
  interval := by decide
  deadline := fun d h => by cases h
  time := by decide
  irqCause := by decide
  debug := by decide
  romForm := by decide
  romSize := by decide

/-- Some of the state's next state, for witnesses of `exec i s = .next t`. -/
def runs (o : Outcome State Fault Refusal) : Bool :=
  match o with
  | .next _ => true
  | _ => false

theorem exists_next_of_runs {o : Outcome State Fault Refusal} (h : runs o = true) : ∃ t, o = .next t := by
  cases o with
  | next t => exact ⟨t, rfl⟩
  | fault f => cases h
  | refused r => cases h

/-- DecodeEncodeRoundTrip: the four selects, and the arguments at both ends of their ranges. -/
theorem witness_DecodeEncodeRoundTrip :
    (Instr.busWR0 true 0xFFFC 0xFF).wellFormed ∧ (Instr.busRR1 false 1).wellFormed ∧
    (Instr.busWR2 false 0xC0C2 0).wellFormed ∧ (Instr.busRR3 true 0xFFFF).wellFormed ∧
    (Instr.move (-128) 127).wellFormed ∧ (Instr.button 0 false).wellFormed ∧ (Instr.button 1 true).wellFormed ∧
    (Instr.refreshPoll (2 ^ 64)).wellFormed := by decide

/-- EncodeDecodeRoundTrip: a write that the device window takes, and one that the ROM window takes. -/
theorem witness_EncodeDecodeRoundTrip :
    (classify (BusSample.ofWord 0xAC0C2 6) ≠ .none ∧ (0xAC0C2 : BitVec 20).getLsbD 16 = false) ∧
    (classify (BusSample.ofWord 0xCC400 6) ≠ .none ∧ (0xCC400 : BitVec 20).getLsbD 16 = false) := by decide

/-- CommandLength: exactly four, three and no parameters, and one too few. -/
theorem witness_CommandLength :
    ([1, 2, 3, 4] : List Byte).length = (paramCount 0x40).val ∧ ([1, 2, 3] : List Byte).length = (paramCount 0x9C).val ∧
    ([] : List Byte).length = (paramCount 0x10).val ∧ ([1, 2, 3] : List Byte).length < (paramCount 0x60).val ∧
    ([] : List Byte).length < (paramCount 0xA0).val := by decide

theorem witness_StepRunsNextAction :
    { busy with inputs := [.move 1 1, .protoPoll] }.inputs = .move 1 1 :: [.protoPoll] ∧ busy.inputs = [] ∧
    flagsAgree busy.params (BusSample.ofWord 0xBC0CF 0) ∧ ¬ flagsAgree busy.params (BusSample.ofWord 0xBC0D0 0) := by
  decide

/-- A state with the invariant and next actions to run. -/
theorem inv_busy_inputs (l : List Stimulus) : Inv { busy with inputs := l } := by
  have h := witness_inv_busy
  exact ⟨h.params, h.romoff, h.clampX, h.clampY, h.coords, h.replies, h.pbufLength, h.rbufLength, h.pbufTail,
    h.rbufTail, h.awaiting, h.interval, h.deadline, h.time, h.irqCause, h.debug, h.romForm, h.romSize⟩

/-- AdmittedActionsComplete: one admitted action of each kind, its arguments at the ends of their domains. -/
theorem witness_AdmittedActionsComplete (a : Stimulus)
    (h : a ∈ [.sample 0xBC0CF 0, .sample 0xAC0C0 0xFF, .sample 0xDC4FF 0, .sample 0xCC400 1, .sample 0x1FFFC 0,
      .protoPoll, .move (-128) 127, .button 1 true, .refreshPoll 5000, .refreshPoll (2 ^ 64 - 20001), .setInput .A 0xFF,
      .reinitialize]) :
    Inv { busy with inputs := [a] } ∧ { busy with inputs := [a] }.inputs = [a] ∧ admits { busy with inputs := [a] } a := by
  refine ⟨inv_busy_inputs _, rfl, ?_⟩
  simp only [List.mem_cons, List.not_mem_nil, or_false] at h
  rcases h with rfl | rfl | rfl | rfl | rfl | rfl | rfl | rfl | rfl | rfl | rfl | rfl <;> decide

/-- EverySampleCompletes, RomReadDrivesPagedByte, EveryStepKeepsInvariant's and DeadlineNeverWraps's invariant. -/
theorem witness_Inv : Inv busy ∧ Inv debugging := ⟨witness_inv_busy, witness_inv_debugging⟩

theorem witness_EveryStepKeepsInvariant :
    Inv { busy with inputs := [.move 1 1] } ∧ ∃ t, step { busy with inputs := [.move 1 1] } = .next t :=
  ⟨inv_busy_inputs _, exists_next_of_runs (by decide)⟩

/-- WriteThenReadRegister: a sample that does not complete the fingerprint, though the detector is in state 2; and the
two accesses of each select. -/
theorem witness_WriteThenReadRegister :
    let s := { busy with rstate := .waitEntry }
    ¬ (s.rstate = .waitEntry ∧ (0xC0C0 : Addr) = s.params.resetEntry) ∧
    (∃ t u, exec (.busWR0 false 0xC0C0 1) s = .next t ∧ exec (.busRR0 false 0xC0C4) t = .next u) ∧
    (∃ t u, exec (.busWR1 false 0xC0C1 1) s = .next t ∧ exec (.busRR1 false 0xC0C5) t = .next u) ∧
    (∃ t u, exec (.busWR2 false 0xC0C2 1) s = .next t ∧ exec (.busRR2 false 0xC0C6) t = .next u) ∧
    (∃ t u, exec (.busWR3 false 0xC0C3 1) s = .next t ∧ exec (.busRR3 false 0xC0C7) t = .next u) :=
  ⟨by decide, ⟨_, _, rfl, rfl⟩, ⟨_, _, rfl, rfl⟩, ⟨_, _, rfl, rfl⟩, ⟨_, _, rfl, rfl⟩⟩

theorem witness_ReadsAreIdempotent :
    Instr.busRRom 0xC417 ∈ [.busRR0 false 0xC417, .busRR1 false 0xC417, .busRR2 false 0xC417, .busRR3 false 0xC417,
      .busRRom 0xC417] ∧
    ¬ completesFingerprint (.busRRom 0xC417) busy ∧
    ∃ t u, exec (.busRRom 0xC417) busy = .next t ∧ exec (.busRRom 0xC417) t = .next u :=
  ⟨by simp, by decide, _, _, rfl, rfl⟩

/-- RomWriteNeedsDebugLatch: without the path, with the path and no latch, and with both. -/
theorem witness_RomWriteNeedsDebugLatch :
    ¬ (busy.params.debugPresent = true ∧ busy.dbgwe = true) ∧
    ¬ ({ debugging with dbgwe := false }.params.debugPresent = true ∧ { debugging with dbgwe := false }.dbgwe = true) ∧
    (debugging.params.debugPresent = true ∧ debugging.dbgwe = true) := by decide

/-- An instruction that answers a next state, for the statements about every instruction. -/
theorem witness_exec_next : ∃ t, exec (.busWRom 0xC412 0x77) debugging = .next t := ⟨_, rfl⟩

/-- DebugLatchRule: the sentinel, the same byte elsewhere, another byte there, and no debug path. -/
theorem witness_DebugLatchRule :
    Instr.busWR0 false 0xC0C4 0x5A ∈ deviceWrites false 0xC0C4 0x5A ∧
    debugging.params.debugPath = some ⟨4, 0x5A⟩ ∧ busy.params.debugPath = none ∧
    (∀ rom addr d, Instr.protoPoll ∉ deviceWrites rom addr d) :=
  ⟨by simp, by decide, by decide, by simp⟩

/-- DetectorTransitions: each state, and both addresses in state 2. -/
theorem witness_DetectorTransitions :
    Instr.busUnsel false false true 0xFA62 ∈ [.busUnsel false false true 0xFA62, .busSelNowin true 0xFA62] ∧
    busy.rstate = .waitLow ∧ { busy with rstate := .waitHigh }.rstate = .waitHigh ∧
    { busy with rstate := .waitEntry }.rstate = .waitEntry ∧
    (0xFA62 : Addr) = busy.params.resetEntry ∧ (0xFA63 : Addr) ≠ busy.params.resetEntry :=
  ⟨by simp, by decide, by decide, by decide, by decide, by decide⟩

/-- EverySampleAdvancesDetector: a sample that completes the fingerprint, one that does not, and both run. -/
theorem witness_EverySampleAdvancesDetector :
    let s := { busy with rstate := .waitEntry }
    sampleAddr (.busUnsel false false true 0xFA62) = some 0xFA62 ∧
    completesFingerprint (.busUnsel false false true 0xFA62) s ∧ ¬ completesFingerprint (.busRR0 false 0xC0C0) s ∧
    (∃ t, exec (.busUnsel false false true 0xFA62) s = .next t) ∧ ∃ t, exec (.busRR0 false 0xC0C0) s = .next t :=
  ⟨by decide, by decide, by decide, ⟨_, rfl⟩, ⟨_, rfl⟩⟩

/-- FingerprintReinitialises: the three samples of V-RST-1 and V-RST-2. -/
theorem witness_FingerprintReinitialises :
    busy.rstate = .waitLow ∧ sampleAddr (.busUnsel false false true 0xFFFC) = some busy.params.rvLo ∧
    sampleAddr (.busUnsel false false true 0xFFFD) = some busy.params.rvHi ∧
    (0xFA62 : Addr) = busy.params.resetEntry ∧ (0xFA63 : Addr) ≠ busy.params.resetEntry ∧
    ∀ a, ∃ t u v, exec (.busUnsel false false true 0xFFFC) busy = .next t ∧
      exec (.busUnsel false false true 0xFFFD) t = .next u ∧ exec (.busUnsel false false true a) u = .next v :=
  ⟨by decide, by decide, by decide, by decide, by decide, fun _ => ⟨_, _, _, rfl, rfl, rfl⟩⟩

theorem witness_ReinitializeIsIdempotent : ∃ t, exec .reinitialize busy = .next t := ⟨_, rfl⟩

theorem witness_ReinitializeResets : busy.params = Params.forSlot 4 := by decide

/-- OnlySamplesWriteRegisters: an action, not a sample, that does not reinitialise. -/
theorem witness_OnlySamplesWriteRegisters :
    ¬ reinitialises .protoPoll busy ∧ sampleAddr .protoPoll = none ∧ (∀ v, Instr.protoPoll ≠ .setInput .B v) ∧
    ∃ t, exec .protoPoll busy = .next t :=
  ⟨by decide, by decide, by simp, exists_next_of_runs (by decide)⟩

theorem witness_SamplerNeverReadsProtocolState :
    sampleAddr (.busWR2 false 0xC0C2 6) = some 0xC0C2 ∧ (∃ t, exec (.busWR2 false 0xC0C2 6) busy = .next t) ∧
    ∃ t, exec (.busWR2 false 0xC0C2 6) { busy with cmd := 1, pcnt := 4, pbuf := [1], rcnt := 8, pbsnap := 9 } = .next t :=
  ⟨by decide, ⟨_, rfl⟩, ⟨_, rfl⟩⟩

/-- PollAcknowledges: a poll without a write-request edge, with and without an acknowledge edge, and a bit of INB that is
no feedback bit. -/
theorem witness_PollAcknowledges :
    0 ∉ ready.params.hsFeedback ∧
    (risen { ready with orb := 0x20 }).getLsbD ready.params.wreqBit = false ∧
    (risen { ready with orb := 0x20 }).getLsbD ready.params.rackBit = true ∧
    (risen ready).getLsbD ready.params.wreqBit = false := by decide

/-- PollCollectsBytes: a command byte with parameters, and the parameters that are not the last, from four down to two. -/
theorem witness_PollCollectsBytes :
    ((risen (offering 0x40)).getLsbD ready.params.wreqBit = true ∧ (offering 0x40).pcnt = 0 ∧
      paramCount (portA (offering 0x40)) ≠ 0) ∧
    (risen { offering 0x34 with pcnt := 4 }).getLsbD ready.params.wreqBit = true ∧
    { offering 0x34 with pcnt := 4 }.pcnt.val = 2 + 2 ∧ { offering 0x78 with pcnt := 2 }.pcnt.val = 0 + 2 := by decide

/-- PollRunsCompletedCommand: a command without parameters, and a last parameter byte. -/
theorem witness_PollRunsCompletedCommand :
    ((risen (offering 0x10)).getLsbD ready.params.wreqBit = true ∧ (offering 0x10).pcnt = 0 ∧
      paramCount (portA (offering 0x10)) = 0 ∧ completedCommand (offering 0x10) = some 0x10) ∧
    ((risen { offering 0x56 with cmd := 0x40, pcnt := 1 }).getLsbD ready.params.wreqBit = true ∧
      { offering 0x56 with cmd := 0x40, pcnt := 1 }.pcnt = 1 ∧
      completedCommand { offering 0x56 with cmd := 0x40, pcnt := 1 } = some 0x40) := by decide

/-- HeldLevelGivesOneEdge: with no feedback bit, and with two that are no handshake bit. -/
theorem witness_HeldLevelGivesOneEdge :
    (∃ t, exec .protoPoll (offering 0x10) = .next t) ∧ (offering 0x10).params.hsFeedback = [] ∧
    (let s := { offering 0x10 with params := { Params.default with hsFeedback := [6, 7] } }
     (∃ t, exec .protoPoll s = .next t) ∧ s.params.wreqBit ∉ s.params.hsFeedback ∧
      s.params.rackBit ∉ s.params.hsFeedback ∧ 5 ∉ s.params.hsFeedback) :=
  ⟨exists_next_of_runs (by decide), by decide, exists_next_of_runs (by decide), by decide, by decide, by decide⟩

/-- SetPosClampsOperands, SetClampSetsAxis, MoveReport: coordinates that fit, at both ends of the range. -/
theorem witness_coordsFit :
    coordsFit { busy with x := 0, y := 65535, minx := 0, maxx := 65535, miny := 65535, maxy := 65535 } ∧
    16 ≤ busy.params.coordW := by decide

/-- SetModeStoresNibble: bit 0 clear and set, and a poll after refresh interrupts are disabled. -/
theorem witness_SetModeStoresNibble :
    (0x6 : BitVec 4).getLsbD 0 = false ∧ (0xB : BitVec 4).getLsbD 0 = true ∧ refIE { busy with mode := 0x6 } = false ∧
    ∃ u, exec (.refreshPoll 5000) { busy with mode := 0x6 } = .next u :=
  ⟨by decide, by decide, by decide, exists_next_of_runs (by decide)⟩

/-- InitRestoresRectangle, SetTimingStoresInterval: the source's parameter values. -/
theorem witness_sourceValues : busy.params.sourceValues := by decide

theorem witness_UnimplementedCommandsChangeOnlyCmd :
    (commandByte 0x8 0xF ∈ [commandByte 0x8 0xF, commandByte 0xB 0xF, commandByte 0xC 0xF, commandByte 0xD 0xF,
      commandByte 0xE 0xF, commandByte 0xF 0xF]) ∧
    (risen (offering 0x8F)).getLsbD ready.params.wreqBit = true ∧ (offering 0x8F).pcnt = 0 ∧
    portA (offering 0x8F) = commandByte 0x8 0xF := by decide

theorem witness_VendorConsumesParameter :
    let s := { offering 0x99 with cmd := 0xA5, pcnt := 1 }
    (risen s).getLsbD s.params.wreqBit = true ∧ s.pcnt = 1 ∧ s.cmd = commandByte 0xA 5 := by decide

/-- SaturatingAddLaws: the ends of every range, and each direction of travel, inside and outside the bounds. -/
theorem witness_SaturatingAddLaws :
    (∀ v ∈ [(0 : Int), 65535], ∀ b ∈ [((0 : Int), (65535 : Int)), (0, 0), (65535, 65535)],
      0 ≤ v ∧ v ≤ 65535 ∧ 0 ≤ b.1 ∧ b.1 ≤ b.2 ∧ b.2 ≤ 65535) ∧
    ((127 : Int) > 0 ∧ (-128 : Int) < 0 ∧ (0 : Int) ≤ 0 ∧ (0 : Int) ≤ 65535) := by decide

theorem witness_MoveReport : signedByte (-128) ∧ signedByte 127 := by decide

theorem witness_MoveSaturatesAtMaximum :
    signedByte 1 ∧ signedByte 127 ∧ (1 : Int) > 0 ∧ coordsFit { busy with x := 200 } ∧
    coordsFit { busy with y := 1023 } ∧ { busy with x := 200 }.x = { busy with x := 200 }.maxx ∧
    { busy with y := 1023 }.y = { busy with y := 1023 }.maxy := by decide

theorem witness_ButtonReport : 0 ≤ 1 ∧ 1 ≤ 1 := by decide

/-- RefreshPollReport: disabled, unarmed, at the deadline, and one microsecond before it; the last admitted time. -/
theorem witness_RefreshPollReport :
    (timeInRange busy.params (2 ^ 64 - 20001) ∧ timeInRange busy.params 5000 ∧ busy.lastNow ≤ 5000) ∧
    (({ busy with mode := 0x8 }.mode.getLsbD 0 && { busy with mode := 0x8 }.mode.getLsbD 3) = false) ∧
    (busy.mode.getLsbD 0 && busy.mode.getLsbD 3) = true ∧ { busy with rdeadline := none }.rdeadline = none ∧
    busy.rdeadline = some 21000 ∧ 21000 ≤ 21000 ∧ 20999 < 21000 := by decide

/-- DeadlineNeverWraps: armed at the last admitted time, advanced, and kept. -/
theorem witness_DeadlineNeverWraps :
    Inv busy ∧ field (exec (.refreshPoll (2 ^ 64 - 20001)) busy) State.rdeadline = some (some 37666) ∧
    field (exec (.refreshPoll (2 ^ 64 - 20001)) { busy with rdeadline := none }) State.rdeadline =
      some (some (2 ^ 64 - 3335)) ∧
    field (exec (.refreshPoll 5000) busy) State.rdeadline = some (some 21000) :=
  ⟨witness_inv_busy, by decide, by decide, by decide⟩

/-- InterruptAssertRule: each of the three reports runs. -/
theorem witness_InterruptAssertRule :
    (∃ t, exec (.move 1 1) busy = .next t) ∧ (∃ t, exec (.button 0 true) busy = .next t) ∧
    ∃ t, exec (.refreshPoll 5000) busy = .next t :=
  ⟨exists_next_of_runs (by decide), exists_next_of_runs (by decide), exists_next_of_runs (by decide)⟩

theorem witness_PendingCauseBlocksAssertAfterInit :
    let s := { busy with irq := false }
    s.irq = false ∧ (s.causeMove || s.causeBtn || s.causeRef) = true ∧ ¬ runsOpcode 0x2 (.move 1 1) s ∧
    ¬ reinitialises (.move 1 1) s ∧ ∃ t, exec (.move 1 1) s = .next t := by
  refine ⟨by decide, by decide, ?_, by decide, _, rfl⟩
  rintro (⟨c, hc, h⟩ | ⟨h, _⟩)
  · revert h; revert hc; revert c; decide
  · cases h

/-- UnadmittedArgumentsRefused: the first argument outside each domain. -/
theorem witness_UnadmittedArgumentsRefused :
    ¬ (signedByte 128 ∧ signedByte 0) ∧ ¬ (signedByte 0 ∧ signedByte (-129)) ∧ ¬ 2 ≤ 1 ∧
    ¬ timeInRange busy.params (2 ^ 64 - 20000) ∧ (timeInRange busy.params 4999 ∧ 4999 < busy.lastNow) ∧
    { busy with inputs := [.sample 0x8C0D0 0] }.inputs = [.sample 0x8C0D0 0] := by decide

/-- The whole-machine rules: commands alone and inside the poll that completes them, and a reinitialisation. -/
theorem witness_runsOpcode :
    runsOpcode 0x2 (.serve 3) busy ∧ runsOpcode 0x5 .protoPoll (offering 0x50) ∧ runsOpcode 0x3 (.clearPos 0) busy ∧
    runsOpcode 0x0 (.setMode 1) busy ∧ runsOpcode 0x1 (.readStatus 0) busy ∧ reinitialises .reinitialize busy :=
  ⟨.inl ⟨0x23, by decide, by decide⟩, .inr ⟨rfl, 0x50, by decide, by decide⟩, .inl ⟨0x30, by decide, by decide⟩,
    .inl ⟨0x01, by decide, by decide⟩, .inl ⟨0x10, by decide, by decide⟩, .inl rfl⟩

/-- OnlyServeInitReinitDeassertIrq: the line up before and down after. -/
theorem witness_OnlyServeInitReinitDeassertIrq :
    busy.irq = true ∧ field (exec (.serve 3) busy) State.irq = some false := by decide

/-- CausesSetAndClearedOnlyByRule: each cause going up, and the latched one going down. -/
theorem witness_CausesSetAndClearedOnlyByRule :
    field (exec (.move 1 0) { busy with causeMove := false, irq := false }) State.causeMove = some true ∧
    field (exec (.button 0 true) busy) State.causeBtn = some true ∧
    field (exec (.refreshPoll 21000) busy) State.causeRef = some true ∧
    field (exec (.serve 3) busy) State.causeMove = some false := by decide

theorem witness_ModeWrittenOnlyBySetMode : field (exec (.setMode 1) busy) State.mode = some 1 ∧ busy.mode ≠ 1 := by decide

/-- MovedLatchRule: the latch going up with a change of position, and down. -/
theorem witness_MovedLatchRule :
    field (exec (.move 1 0) { busy with moved := false }) (fun t => (t.moved, t.x)) = some (true, 151) ∧
    field (exec (.readStatus 0) busy) State.moved = some false := by decide

/-- PositionAndRectangle: the invariant holds outside the rectangle too. -/
theorem inv_busy_outside : Inv { busy with x := 99, y := 9 } := by
  have h := witness_inv_busy
  exact ⟨h.params, h.romoff, h.clampX, h.clampY, by decide, h.replies, h.pbufLength, h.rbufLength, h.pbufTail,
    h.rbufTail, h.awaiting, h.interval, h.deadline, h.time, h.irqCause, h.debug, h.romForm, h.romSize⟩

/-- PositionAndRectangle: inside the rectangle, CLEARPOS leaving it, and a movement from below the minimum. -/
theorem witness_PositionAndRectangle :
    inRectangle busy ∧ field (exec (.clearPos 0) busy) (fun t => decide (inRectangle t)) = some false ∧
    { busy with x := 99, y := 9 }.x < busy.minx ∧ { busy with x := 99, y := 9 }.y < busy.miny ∧
    (∃ t, exec (.move 1 1) { busy with x := 99, y := 9 } = .next t) :=
  ⟨by decide, by decide, by decide, by decide, exists_next_of_runs (by decide)⟩

/-- PowerOnHasInvariant: admissible parameters other than the defaults, and a slot above 7. -/
theorem witness_PowerOnHasInvariant :
    { Params.forSlot 7 with
      debugPath := some ⟨15, 0xFF⟩, wreqBit := 0, rackBit := 7, hsFeedback := [6, 5], intervalReset := 20000
      coordW := 20, timeW := 15, pbufN := 4, rbufN := 5 }.valid ∧ ¬ (Params.forSlot 8).valid := by
  decide

/-- R6's table and constraints: a debug offset above 15 is not admissible, nor is one outside the device window. -/
theorem test_debug_offset_range :
    ¬ { Params.default with devSize := 32, debugPath := some ⟨20, 0xFF⟩ }.valid ∧
    ¬ { Params.default with devSize := 8, debugPath := some ⟨8, 0xFF⟩ }.valid :=
  ⟨by decide, by decide⟩

theorem witness_NoReachableFault : Reachable { State.powerOn Params.default with inputs := [.sample 0xDC417 0] } :=
  .choose _ _ (.powerOn _ (by decide))

end Sys2Proof.Tests
end

section
/-!
PROOFS. The kinds of instruction: a bus sample, a command byte or an action, and which instructions run an opcode.
-/

namespace Sys2Proof

/-- The decoder reads back what the encoder writes for a command (30_encoding R86). -/
theorem decodeCommand_of_encode {i : Instr} {c : Byte} (h : encode i = .command c) : decodeCommand c = i := by
  cases i with
  | setClamp sub axisY => cases h; revert sub axisY; decide
  | setTiming count ignored hz50 => cases h; revert count ignored hz50; decide
  | setMode | readStatus | serve | clearPos | setPos | init | home | nop8 | vendor | nopB | nopC | nopD | nopE | nopF =>
    cases h
    simp [decodeCommand]
  | _ => cases h

/-- A command byte is the encoding of the command it decodes to (30_encoding R85, R86). -/
@[simp] theorem encode_decodeCommand (c : Byte) : encode (decodeCommand c) = .command c := by
  revert c; decide

end Sys2Proof

namespace Sys2Proof.Machine

/-- The kinds of instruction: a bus sample, a command byte, or one of the six other actions. -/
inductive InstrKind : Instr → Prop where
  | sample {i : Instr} {addr : Addr} (h : sampleAddr i = some addr) : InstrKind i
  | command (c : Byte) : InstrKind (decodeCommand c)
  | protoPoll : InstrKind .protoPoll
  | move (dx dy : Int) : InstrKind (.move dx dy)
  | button (k : Nat) (p : Bool) : InstrKind (.button k p)
  | refreshPoll (now : Nat) : InstrKind (.refreshPoll now)
  | setInput (port : Port) (v : Byte) : InstrKind (.setInput port v)
  | reinitialize : InstrKind .reinitialize

theorem instrKind_of_encode {i : Instr} {c : Byte} (h : encode i = .command c) : InstrKind i :=
  decodeCommand_of_encode h ▸ .command c

/-- Every instruction is of one of the kinds. -/
theorem instrKind (i : Instr) : InstrKind i := by
  cases i with
  | protoPoll => exact .protoPoll
  | move dx dy => exact .move dx dy
  | button k p => exact .button k p
  | refreshPoll now => exact .refreshPoll now
  | setInput port v => exact .setInput port v
  | reinitialize => exact .reinitialize
  | setMode | readStatus | serve | clearPos | setPos | init | setClamp | home | nop8 | setTiming | vendor | nopB | nopC
  | nopD | nopE | nopF => exact instrKind_of_encode rfl
  | _ => exact .sample rfl

/-- A sample is written as an action, not as a command byte. -/
theorem encode_of_sample {i : Instr} {addr : Addr} (h : sampleAddr i = some addr) : ∃ a, encode i = .stimulus a := by
  cases i <;> cases h <;> exact ⟨_, rfl⟩

@[simp] theorem sampleAddr_decodeCommand (c : Byte) : sampleAddr (decodeCommand c) = none := by
  cases h : sampleAddr (decodeCommand c) with
  | none => rfl
  | some addr =>
    obtain ⟨a, ha⟩ := encode_of_sample h
    simp at ha

/-! ### Which instructions run an opcode -/

@[simp] theorem runsOpcode_command (op : BitVec 4) (c : Byte) (s : State) :
    runsOpcode op (decodeCommand c) s ↔ opcode c = op := by
  constructor
  · rintro (⟨b, hb, h⟩ | ⟨h, _⟩)
    · have := congrArg encode h
      simp only [encode_decodeCommand, Encoded.command.injEq] at this
      rw [this, hb]
    · have := congrArg encode h
      rw [encode_decodeCommand] at this
      cases this
  · exact fun h => .inl ⟨c, h, rfl⟩

@[simp] theorem runsOpcode_protoPoll (op : BitVec 4) (s : State) :
    runsOpcode op .protoPoll s ↔ ∃ c ∈ completedCommand s, opcode c = op := by
  constructor
  · rintro (⟨b, _, h⟩ | ⟨_, h⟩)
    · have := congrArg encode h
      rw [encode_decodeCommand] at this
      cases this
    · exact h
  · exact fun h => .inr ⟨rfl, h⟩

/-- An action other than a poll runs no command. -/
theorem not_runsOpcode {i : Instr} {a : Stimulus} (ha : encode i = .stimulus a) (hi : i ≠ .protoPoll) (op : BitVec 4)
    (s : State) : ¬ runsOpcode op i s := by
  rintro (⟨c, _, rfl⟩ | ⟨h, _⟩)
  · simp at ha
  · exact hi h

theorem not_runsOpcode_of_sample {i : Instr} {addr : Addr} (h : sampleAddr i = some addr) (op : BitVec 4) (s : State) :
    ¬ runsOpcode op i s := by
  obtain ⟨a, ha⟩ := encode_of_sample h
  exact not_runsOpcode ha (by rintro rfl; cases h) op s

/-! ### Which steps reinitialise -/

/-- Among the instructions that are no sample only the outside call reinitialises (70_reset R340). -/
theorem not_reinitialises {i : Instr} (h : sampleAddr i = none) (hi : i ≠ .reinitialize) (s : State) :
    ¬ reinitialises i s := by
  rintro (hr | ⟨_, ha⟩)
  · exact hi hr
  · rw [h] at ha
    cases ha

theorem not_reinitialises_command (c : Byte) (s : State) : ¬ reinitialises (decodeCommand c) s := by
  refine not_reinitialises (sampleAddr_decodeCommand c) (fun h => ?_) s
  have := congrArg encode h
  rw [encode_decodeCommand] at this
  cases this

end Sys2Proof.Machine
end

section
/-!
PROOFS. What an instruction of each kind can have done, each said once: samples, polls, commands and reports.
-/

namespace Sys2Proof.Machine

/-! ### Samples -/

/-- What a sample's dispatch can do, before the detector (41_bus_dispatch R153, R154, R157 to R159). -/
structure DispatchEffect (i : Instr) (addr : Addr) (s u : State) : Prop where
  frame : DispatchFrame s u
  /-- ROMOFF stays fresh, since a write of ORB or DDRB recomputes it (40_pia_registers R126). -/
  romoff : s.romoff = romPageOffset s.params s.orb s.ddrb → u.romoff = romPageOffset u.params u.orb u.ddrb
  /-- The latch is set only with the debug path (41_bus_dispatch R154). -/
  dbgwe : u.dbgwe = true → s.dbgwe = true ∨ s.params.debugPresent = true
  /-- The ROM image changes only in an enabled BUS_W_ROM, inside the image (41_bus_dispatch R158). -/
  rom : u.rom = s.rom ∨
    (s.params.debugPresent = true ∧ s.dbgwe = true ∧ romIndex s addr < s.params.romSize ∧
      ∃ d, i = .busWRom addr d ∧ u.rom = Memory.write s.rom (romIndex s addr) d)

theorem dispatchEffect_refl (i : Instr) (addr : Addr) (s : State) : DispatchEffect i addr s s :=
  ⟨dispatchFrame_refl s, id, .inl, .inl rfl⟩

theorem dispatchEffect_regWrite0 (i : Instr) (addr : Addr) (d : Byte) (s : State) :
    DispatchEffect i addr s (regWrite0 d s) := by
  rw [regWrite0_eq]
  exact ⟨regWrite0_eq s d ▸ dispatchFrame_regWrite0 d s, id, .inl, .inl rfl⟩

theorem dispatchEffect_regWrite1 (i : Instr) (addr : Addr) (d : Byte) (s : State) :
    DispatchEffect i addr s (regWrite1 d s) :=
  ⟨dispatchFrame_regWrite1 d s, id, .inl, .inl rfl⟩

theorem dispatchEffect_regWrite2 (i : Instr) (addr : Addr) (d : Byte) (s : State) :
    DispatchEffect i addr s (regWrite2 d s) := by
  rw [regWrite2_eq]
  exact ⟨regWrite2_eq s d ▸ dispatchFrame_regWrite2 d s, fun _ => rfl, .inl, .inl rfl⟩

theorem dispatchEffect_regWrite3 (i : Instr) (addr : Addr) (d : Byte) (s : State) :
    DispatchEffect i addr s (regWrite3 d s) :=
  ⟨dispatchFrame_regWrite3 d s, id, .inl, .inl rfl⟩

theorem dispatchEffect_debugLatch {i : Instr} {addr : Addr} {s u : State} (d : Byte) (h : DispatchEffect i addr s u) :
    DispatchEffect i addr s (debugLatch addr d u) := by
  refine ⟨dispatchFrame_debugLatch addr d h.frame, ?_, ?_, ?_⟩ <;> rw [debugLatch_eq]
  · exact h.romoff
  · intro hd
    rcases Bool.or_eq_true_iff.1 hd with hu | hs
    · exact h.dbgwe hu
    · exact .inr (h.frame.params ▸ debugPresent_of_isSentinel hs)
  · exact h.rom

/-- A sample that answers a next state: the dispatch's effect, then the detector (41_bus_dispatch R150). -/
theorem sample_effect {i : Instr} {addr : Addr} {s t : State} (hi : sampleAddr i = some addr)
    (h : exec i s = .next t) :
    ∃ (u : State) (answer : Option Byte), DispatchEffect i addr s u ∧ t = endSample addr answer u := by
  cases i with
  | busWR0 => cases hi; cases h; exact ⟨_, _, dispatchEffect_debugLatch _ (dispatchEffect_regWrite0 ..), rfl⟩
  | busWR1 => cases hi; cases h; exact ⟨_, _, dispatchEffect_debugLatch _ (dispatchEffect_regWrite1 ..), rfl⟩
  | busWR2 => cases hi; cases h; exact ⟨_, _, dispatchEffect_debugLatch _ (dispatchEffect_regWrite2 ..), rfl⟩
  | busWR3 => cases hi; cases h; exact ⟨_, _, dispatchEffect_debugLatch _ (dispatchEffect_regWrite3 ..), rfl⟩
  | busRR0 | busRR1 | busRR2 | busRR3 | busUnsel | busSelNowin =>
    cases hi; cases h; exact ⟨_, _, dispatchEffect_refl .., rfl⟩
  | busRRom a =>
    cases hi
    simp only [exec, execBusRRom] at h
    split at h <;> cases h
    exact ⟨_, _, dispatchEffect_refl .., rfl⟩
  | busWRom a d =>
    cases hi
    simp only [exec, execBusWRom] at h
    split at h
    next henabled =>
      obtain ⟨hpath, hlatch⟩ := Bool.and_eq_true_iff.1 henabled
      split at h <;> cases h
      next hinside =>
        refine ⟨_, _, ⟨dispatchFrame_rom s (Memory.write s.rom (romIndex s addr) d), id, .inl, .inr ?_⟩, rfl⟩
        exact ⟨hpath, hlatch, hinside, d, rfl, rfl⟩
    next => cases h; exact ⟨_, _, dispatchEffect_refl .., rfl⟩
  | _ => cases hi

/-- The state just after a reinitialisation, up to the detector's state and the output (70_reset R341). -/
def IsReinitOf (u t : State) : Prop := ∃ (r : RState) (o : Option Byte), t = { reinit u with rstate := r, out := o }

/-- What a sample leaves alone when it does not complete the reset fingerprint (20_memory R68). -/
structure SampleFrame (s t : State) : Prop where
  protocol : sameProtocol s t
  mouse : sameMouse s t
  ina : t.ina = s.ina
  inb : t.inb = s.inb

/-- A sample reinitialises when it completes the fingerprint, and else leaves all but the registers, ROM, the debug
latch and the detector (70_reset R344). -/
theorem sample_reinit_or_frame {i : Instr} {addr : Addr} {s t : State} (hi : sampleAddr i = some addr)
    (h : exec i s = .next t) :
    (completesFingerprint i s ∧ ∃ u, IsReinitOf u t) ∨ (¬ completesFingerprint i s ∧ SampleFrame s t) := by
  obtain ⟨u, answer, hu, rfl⟩ := sample_effect hi h
  have hf := hu.frame
  have hiff : completesFingerprint i s ↔ u.rstate = .waitEntry ∧ addr = u.params.resetEntry := by
    rw [completesFingerprint, hi, hf.rstate, hf.params, Option.some.injEq]
  rcases endSample_cases u addr answer with ⟨hr, ha, he⟩ | ⟨hn, r, he⟩
  · exact .inl ⟨hiff.2 ⟨hr, ha⟩, u, _, _, he⟩
  · rw [he]
    exact .inr ⟨fun hc => hn (hiff.1 hc), hf.protocol, hf.mouse, hf.ina, hf.inb⟩

/-- Whatever reinitialises, the next state is a reinitialised one (70_reset R340, R341). -/
theorem isReinitOf_of_reinitialises {i : Instr} {s t : State} (h : exec i s = .next t) (hr : reinitialises i s) :
    ∃ u, IsReinitOf u t := by
  rcases hr with rfl | hc
  · cases h; exact ⟨quiet s, _, _, rfl⟩
  · rcases sample_reinit_or_frame hc.2 h with ⟨_, hu⟩ | ⟨hn, _⟩
    · exact hu
    · exact absurd hc hn

/-! ### Polls -/

/-- A poll that answers a next state: the handshake, then the command it completed, if any (42_protocol R180, R186). -/
theorem protoPoll_cases {s t : State} (h : exec .protoPoll s = .next t) :
    (completedCommand s = none ∧ t = (pollHandshake (quiet s)).1) ∨
    ∃ c, completedCommand s = some c ∧ exec (decodeCommand c) (pollHandshake (quiet s)).1 = .next t := by
  rw [protoPoll_eq, pollHandshake_command] at h
  cases hc : completedCommand s with
  | none => rw [hc] at h; cases h; exact .inl ⟨rfl, rfl⟩
  | some c => rw [hc] at h; exact .inr ⟨c, rfl, h⟩

/-! ### Commands -/

theorem commandFrame_of_next {c : Byte} {s t : State} (h : exec (decodeCommand c) s = .next t) : CommandFrame s t := by
  obtain ⟨t', h', hf⟩ := command_completes c s
  rw [h] at h'
  cases h'
  exact hf

/-- The mode and the latches after a command: each is written by one opcode only (43_commands R220 to R222). -/
structure CommandLatches (c : Byte) (s t : State) : Prop where
  mode : t.mode = if opcode c = 0 then subMode c else s.mode
  moved : t.moved = if opcode c = 1 then false else s.moved
  causeMove : t.causeMove = if opcode c = 2 then false else s.causeMove
  causeBtn : t.causeBtn = if opcode c = 2 then false else s.causeBtn
  causeRef : t.causeRef = if opcode c = 2 then false else s.causeRef

/-- A command of opcode 3 or above that leaves the mode and the latches has done its part. -/
theorem commandLatches_of_kept {c : Byte} {s t : State} (hop : 3 ≤ (opcode c).toNat) (hmode : t.mode = s.mode)
    (hmoved : t.moved = s.moved) (hm : t.causeMove = s.causeMove) (hb : t.causeBtn = s.causeBtn)
    (hr : t.causeRef = s.causeRef) : CommandLatches c s t := by
  have hne : opcode c ≠ 0 ∧ opcode c ≠ 1 ∧ opcode c ≠ 2 := by bv_omega
  obtain ⟨h0, h1, h2⟩ := hne
  exact ⟨hmode.trans (if_neg h0).symm, hmoved.trans (if_neg h1).symm, hm.trans (if_neg h2).symm,
    hb.trans (if_neg h2).symm, hr.trans (if_neg h2).symm⟩

theorem command_latches {c : Byte} {s t : State} (h : exec (decodeCommand c) s = .next t) : CommandLatches c s t := by
  generalize hi : decodeCommand c = i at h
  have hc : encode i = .command c := hi ▸ encode_decodeCommand c
  cases i with
  | setMode m => cases hc; cases h; constructor <;> simp
  | readStatus sub => cases hc; cases h; constructor <;> simp [stageReply]
  | serve sub => cases hc; cases h; constructor <;> simp [stageReply]
  | setClamp sub axisY =>
    cases hc; cases h
    cases axisY <;> exact commandLatches_of_kept (by simp) rfl rfl rfl rfl rfl
  | clearPos | setPos | init | home | setTiming | nop8 | vendor | nopB | nopC | nopD | nopE | nopF =>
    cases hc; cases h
    exact commandLatches_of_kept (by simp) rfl rfl rfl rfl rfl
  | _ => cases hc

/-! ### Reports -/

theorem move_inversion {dx dy : Int} {s t : State} (h : exec (.move dx dy) s = .next t) :
    (signedByte dx ∧ signedByte dy) ∧ t = irqEdge (anyCause s) (latchMove s (movedTo dx dy (quiet s))) := by
  change execMove dx dy s = _ at h
  unfold execMove at h
  split at h <;> cases h
  exact ⟨‹_›, rfl⟩

/-- The button's new state as one update (44_mouse_engine R275). -/
theorem setButton_eq (k : Nat) (p : Bool) (s : State) :
    setButton k p s = { s with btn0 := if k = 0 then p else s.btn0, btn1 := if k = 0 then s.btn1 else p } := by
  unfold setButton; split <;> rfl

/-- A button report before the interrupt line: the button, and its cause while enabled (44_mouse_engine R275). -/
def buttonReport (k : Nat) (p : Bool) (s : State) : State :=
  { setButton k p (quiet s) with causeBtn := s.causeBtn || btnIE s }

theorem button_inversion {k : Nat} {p : Bool} {s t : State} (h : exec (.button k p) s = .next t) :
    k ≤ 1 ∧ t = irqEdge (anyCause s) (buttonReport k p s) := by
  have hb : buttonReport k p s = { setButton k p (quiet s) with
      causeBtn := (setButton k p (quiet s)).causeBtn || btnIE (setButton k p (quiet s)) } := by
    simp only [buttonReport, setButton_eq, btnIE, quiet_causeBtn, quiet_mode]
  change execButton k p s = _ at h
  unfold execButton at h
  split at h <;> cases h
  exact ⟨‹_›, by rw [hb]⟩

theorem refreshPoll_inversion {now : Nat} {s t : State} (h : exec (.refreshPoll now) s = .next t) :
    (timeInRange s.params now ∧ s.lastNow ≤ now) ∧
      t = irqEdge (anyCause s) (refreshTimer now { quiet s with lastNow := now }) := by
  change execRefreshPoll now s = _ at h
  unfold execRefreshPoll at h
  split_ifs at h with hrange horder
  cases h
  exact ⟨⟨hrange, not_lt.1 horder⟩, rfl⟩

/-- What no report of the mouse engine writes (20_memory R68). -/
structure ReportFrame (s t : State) : Prop where
  registers : sameRegisters s t
  ina : t.ina = s.ina
  inb : t.inb = s.inb
  protocol : sameProtocol s t
  mode : t.mode = s.mode
  rom : t.rom = s.rom
  dbgwe : t.dbgwe = s.dbgwe
  rstate : t.rstate = s.rstate
  params : t.params = s.params
  inputs : t.inputs = s.inputs
  drawn : t.drawn = s.drawn

theorem move_frame {dx dy : Int} {s t : State} (h : exec (.move dx dy) s = .next t) : ReportFrame s t := by
  obtain ⟨_, rfl⟩ := move_inversion h
  constructor <;> simp [irqEdge_eq, latchMove_eq, movedTo, sameRegisters, sameProtocol]

theorem button_frame {k : Nat} {p : Bool} {s t : State} (h : exec (.button k p) s = .next t) : ReportFrame s t := by
  obtain ⟨_, rfl⟩ := button_inversion h
  constructor <;> simp [irqEdge_eq, buttonReport, setButton_eq, sameRegisters, sameProtocol]

theorem refreshPoll_frame {now : Nat} {s t : State} (h : exec (.refreshPoll now) s = .next t) : ReportFrame s t := by
  obtain ⟨_, rfl⟩ := refreshPoll_inversion h
  rcases refreshTimer_cases now { quiet s with lastNow := now } with
    ⟨_, he⟩ | ⟨_, _, he⟩ | ⟨d, _, _, _, he⟩ | ⟨d, _, _, _, he⟩ <;>
  · rw [he]
    constructor <;> simp [irqEdge_eq, sameRegisters, sameProtocol]

end Sys2Proof.Machine
end

section
/-!
PROOFS. The ROM image, the register bank, the latched causes, MODE and MOVED: who writes them (10_state R40 to R42, R49;
20_memory R68).
-/

namespace Sys2Proof.Machine

/-! ### The ROM image -/

theorem rom_of_protoPoll {s t : State} (h : exec .protoPoll s = .next t) : t.rom = s.rom := by
  have hs := (handshakeFrame_poll s).rom
  rcases protoPoll_cases h with ⟨_, rfl⟩ | ⟨c, _, hc⟩
  · exact hs
  · exact (commandFrame_of_next hc).rom.trans hs

/-- The ROM image changes only in a BUS_W_ROM that the debug latch enables (10_state R49). -/
theorem rom_kept_or_enabled_write {i : Instr} {s t : State} (h : exec i s = .next t) :
    t.rom = s.rom ∨ (s.params.debugPresent = true ∧ s.dbgwe = true ∧ ∃ addr d, i = .busWRom addr d) := by
  cases instrKind i with
  | @sample _ addr hi =>
    obtain ⟨u, answer, hu, rfl⟩ := sample_effect hi h
    rw [endSample_rom]
    exact hu.rom.imp_right fun ⟨hpath, hlatch, _, d, hd, _⟩ => ⟨hpath, hlatch, addr, d, hd⟩
  | command c => exact .inl (commandFrame_of_next h).rom
  | protoPoll => exact .inl (rom_of_protoPoll h)
  | move dx dy => exact .inl (move_frame h).rom
  | button k p => exact .inl (button_frame h).rom
  | refreshPoll now => exact .inl (refreshPoll_frame h).rom
  | setInput port v => cases port <;> cases h <;> exact .inl rfl
  | reinitialize => cases h; exact .inl rfl

/-- Settles O18: at power-on no byte is listed as changed, then by the kind of instruction. -/
theorem romChangesOnlyThroughDebugPath : Obligations.RomChangesOnlyThroughDebugPath :=
  ⟨fun _ _ => rfl, fun _ _ _ h => rom_kept_or_enabled_write h⟩

/-! ### The register bank -/

theorem protoPoll_registers {s t : State} (h : exec .protoPoll s = .next t) :
    sameRegisters s t ∧ t.inb = (driveFeedback s).inb := by
  have hs := handshakeFrame_poll s
  rcases protoPoll_cases h with ⟨_, rfl⟩ | ⟨c, _, hc⟩
  · exact ⟨hs.registers, hs.inb⟩
  · have hf := commandFrame_of_next hc
    have hr := hf.registers
    have hsr := hs.registers
    simp only [sameRegisters] at hr hsr ⊢
    exact ⟨by simp [hr, hsr], hf.inb.trans hs.inb⟩

/-- Only samples and reinitialisations write a direction, output or control register or ROMOFF (20_memory R68). -/
theorem sameRegisters_of_no_sample {i : Instr} {s t : State} (h : exec i s = .next t) (hr : ¬ reinitialises i s)
    (hi : sampleAddr i = none) : sameRegisters s t := by
  cases instrKind i with
  | sample ha => rw [ha] at hi; cases hi
  | command c => exact (commandFrame_of_next h).registers
  | protoPoll => exact (protoPoll_registers h).1
  | move dx dy => exact (move_frame h).registers
  | button k p => exact (button_frame h).registers
  | refreshPoll now => exact (refreshPoll_frame h).registers
  | setInput port v => cases port <;> cases h <;> exact ⟨rfl, rfl, rfl, rfl, rfl, rfl, rfl⟩
  | reinitialize => exact absurd (.inl rfl) hr

/-- INB is written by a SetInput of port B, a reinitialisation, and the feedback of a poll (42_protocol R192). -/
theorem inb_kept_or_feedback {i : Instr} {s t : State} (h : exec i s = .next t) (hr : ¬ reinitialises i s)
    (hv : ∀ v, i ≠ .setInput .B v) : t.inb = s.inb ∨ (i = .protoPoll ∧ t.inb = (driveFeedback s).inb) := by
  cases instrKind i with
  | sample hi =>
    rcases sample_reinit_or_frame hi h with ⟨hc, _⟩ | ⟨_, hf⟩
    · exact absurd (.inr hc) hr
    · exact .inl hf.inb
  | command c => exact .inl (commandFrame_of_next h).inb
  | protoPoll => exact .inr ⟨rfl, (protoPoll_registers h).2⟩
  | move dx dy => exact .inl (move_frame h).inb
  | button k p => exact .inl (button_frame h).inb
  | refreshPoll now => exact .inl (refreshPoll_frame h).inb
  | setInput port v =>
    cases port with
    | A => cases h; exact .inl rfl
    | B => exact absurd rfl (hv v)
  | reinitialize => exact absurd (.inl rfl) hr

/-- Settles O27: the registers by the kind of instruction, INB by the two writers left. -/
theorem onlySamplesWriteRegisters : Obligations.OnlySamplesWriteRegisters := by
  intro i s t h hr
  refine ⟨sameRegisters_of_no_sample h hr, fun hv => ?_⟩
  rcases inb_kept_or_feedback h hr hv with hinb | ⟨rfl, hinb⟩ <;> rw [hinb]
  · exact ⟨fun _ _ _ => rfl, fun _ => rfl⟩
  · refine ⟨fun j hj hfree => ?_, fun hnil => by rw [driveFeedback_of_nil s hnil]⟩
    rw [driveFeedback_inb_getLsbD s j hj, if_neg fun hmem => hfree ⟨rfl, hmem⟩]

/-! ### The status byte -/

theorem getLsbD_bitAt (b : Bool) (k j : Nat) (hj : j < 8) : (bitAt b k).getLsbD j = (decide (k = j) && b) := by
  rcases lt_trichotomy j k with h | rfl | h
  · simp [bitAt, h, h.ne']
  · simp [bitAt, hj]
  · have : j - k ≠ 0 := by omega
    simp [bitAt, h.ne, h.not_gt, this]

/-- The bits of the status byte that hold a cause or MOVED (30_encoding R93). -/
theorem statusByte_latch_bits (s : State) :
    (statusByte s).getLsbD 1 = s.causeMove ∧ (statusByte s).getLsbD 2 = s.causeBtn ∧
    (statusByte s).getLsbD 3 = s.causeRef ∧ (statusByte s).getLsbD 5 = s.moved := by
  simp [statusByte, getLsbD_bitAt, -BitVec.getLsbD_eq_getElem]

/-! ### Parts of MouseState that one opcode writes -/

/-- The step runs opcode `op`, alone or inside a poll, or reinitialises. -/
def runsOrReinits (op : BitVec 4) (i : Instr) (s : State) : Prop := runsOpcode op i s ∨ reinitialises i s

/-- One of the three reports of the mouse engine (44_mouse_engine R273, R275, R276). -/
def IsReport (i : Instr) : Prop :=
  (∃ dx dy, i = .move dx dy) ∨ (∃ k p, i = .button k p) ∨ ∃ now, i = .refreshPoll now

/-- A part `f` of MouseState that no command but those of opcode `op` writes; these and a reinitialisation establish
`P`. -/
structure OpcodeLatch {α : Type} (op : BitVec 4) (f : State → α) (P : State → Prop) : Prop where
  mouse : ∀ {s t : State}, sameMouse s t → f t = f s
  command : ∀ {c : Byte} {s t : State}, exec (decodeCommand c) s = .next t → if opcode c = op then P t else f t = f s
  reinit : ∀ {u t : State}, IsReinitOf u t → P t

theorem not_runsOrReinits {i : Instr} {a : Stimulus} (ha : encode i = .stimulus a) (hs : sampleAddr i = none)
    (hp : i ≠ .protoPoll) (hr : i ≠ .reinitialize) (op : BitVec 4) (s : State) : ¬ runsOrReinits op i s :=
  not_or.2 ⟨not_runsOpcode ha hp op s, not_reinitialises hs hr s⟩

theorem not_runsOrReinits_of_report {i : Instr} (hi : IsReport i) (op : BitVec 4) (s : State) :
    ¬ runsOrReinits op i s := by
  rcases hi with ⟨_, _, rfl⟩ | ⟨_, _, rfl⟩ | ⟨_, rfl⟩ <;>
    exact not_runsOrReinits rfl rfl (by simp) (by simp) op s

/-- A step runs the opcode or reinitialises, and then `P` holds; or it does neither, and then only a report can write
the part. -/
theorem OpcodeLatch.written_or_kept {α : Type} {op : BitVec 4} {f : State → α} {P : State → Prop}
    (hl : OpcodeLatch op f P) {i : Instr} {s t : State} (h : exec i s = .next t) :
    (runsOrReinits op i s ∧ P t) ∨ (¬ runsOrReinits op i s ∧ (f t = f s ∨ IsReport i)) := by
  cases instrKind i with
  | sample hi =>
    rcases sample_reinit_or_frame hi h with ⟨hc, _, hu⟩ | ⟨hn, hf⟩
    · exact .inl ⟨.inr (.inr hc), hl.reinit hu⟩
    · refine .inr ⟨?_, .inl (hl.mouse hf.mouse)⟩
      rintro (hrun | rfl | hc)
      · exact not_runsOpcode_of_sample hi op s hrun
      · cases hi
      · exact hn hc
  | command c =>
    have hc := hl.command h
    simp only [runsOrReinits, runsOpcode_command, not_reinitialises_command, or_false]
    split at hc
    · exact .inl ⟨‹_›, hc⟩
    · exact .inr ⟨‹_›, .inl hc⟩
  | protoPoll =>
    have hs := hl.mouse (handshakeFrame_poll s).mouse
    simp only [runsOrReinits, runsOpcode_protoPoll, not_reinitialises (i := .protoPoll) rfl nofun s, or_false]
    rcases protoPoll_cases h with ⟨hnone, rfl⟩ | ⟨c, hsome, hexec⟩
    · exact .inr ⟨by simp [hnone], .inl hs⟩
    · have hc := hl.command hexec
      simp only [hsome, Option.mem_some_iff, exists_eq_left']
      split at hc
      · exact .inl ⟨‹_›, hc⟩
      · exact .inr ⟨‹_›, .inl (hc.trans hs)⟩
  | move dx dy =>
    have hi : IsReport (.move dx dy) := .inl ⟨_, _, rfl⟩
    exact .inr ⟨not_runsOrReinits_of_report hi op s, .inr hi⟩
  | button k p =>
    have hi : IsReport (.button k p) := .inr (.inl ⟨_, _, rfl⟩)
    exact .inr ⟨not_runsOrReinits_of_report hi op s, .inr hi⟩
  | refreshPoll now =>
    have hi : IsReport (.refreshPoll now) := .inr (.inr ⟨_, rfl⟩)
    exact .inr ⟨not_runsOrReinits_of_report hi op s, .inr hi⟩
  | setInput port v =>
    have hf : f t = f s := hl.mouse (by cases port <;> cases h <;> simp [sameMouse])
    exact .inr ⟨not_runsOrReinits rfl rfl (by simp) (by simp) op s, .inl hf⟩
  | reinitialize => exact .inl ⟨.inr (.inl rfl), hl.reinit (isReinitOf_of_reinitialises h (.inl rfl)).choose_spec⟩

/-! ### MODE (10_state R40) -/

theorem mode_opcodeLatch : OpcodeLatch 0x0 State.mode fun _ => True where
  mouse := fun ⟨_, _, _, _, _, _, _, _, hmode, _⟩ => hmode
  command h := by
    split
    · trivial
    · rw [(command_latches h).mode, if_neg ‹_›]
  reinit _ := trivial

theorem mode_of_report {i : Instr} {s t : State} (h : exec i s = .next t) (hi : IsReport i) : t.mode = s.mode := by
  rcases hi with ⟨dx, dy, rfl⟩ | ⟨k, p, rfl⟩ | ⟨now, rfl⟩
  · exact (move_frame h).mode
  · exact (button_frame h).mode
  · exact (refreshPoll_frame h).mode

/-- Settles O55: MODE is written by opcode 0 and reinitialisation, and no report writes it. -/
theorem modeWrittenOnlyBySetMode : Obligations.ModeWrittenOnlyBySetMode := by
  refine ⟨fun _ => ⟨rfl, rfl, rfl⟩, fun i s t h hne => ?_⟩
  rcases mode_opcodeLatch.written_or_kept h with ⟨hrun, _⟩ | ⟨_, hkept | hi⟩
  · exact hrun
  · exact absurd hkept hne
  · exact absurd (mode_of_report h hi) hne

/-! ### The latched causes (10_state R42) -/

/-- The three causes together. -/
def causes (s : State) : Bool × Bool × Bool := (s.causeMove, s.causeBtn, s.causeRef)

theorem causes_eq_iff {s : State} {m b r : Bool} :
    causes s = (m, b, r) ↔ s.causeMove = m ∧ s.causeBtn = b ∧ s.causeRef = r := by
  simp [causes]

theorem causes_opcodeLatch : OpcodeLatch 0x2 causes fun t => causes t = (false, false, false) where
  mouse := fun ⟨_, _, _, _, _, _, _, _, _, _, hm, hb, hr, _⟩ => causes_eq_iff.2 ⟨hm, hb, hr⟩
  command h := by
    have hl := command_latches h
    rw [causes, hl.causeMove, hl.causeBtn, hl.causeRef]
    split <;> rfl
  reinit := by
    rintro u t ⟨r, o, rfl⟩
    rfl

/-- What a report does to the causes: each stays, or its own report raises it while it is enabled (10_state R42). -/
structure CausesKeptOrRaised (i : Instr) (s t : State) : Prop where
  move : t.causeMove = s.causeMove ∨ (t.causeMove = true ∧ moveIE s = true ∧ ∃ dx dy, i = .move dx dy)
  btn : t.causeBtn = s.causeBtn ∨ (t.causeBtn = true ∧ btnIE s = true ∧ ∃ k p, i = .button k p)
  ref : t.causeRef = s.causeRef ∨ (t.causeRef = true ∧ refIE s = true ∧ ∃ now, i = .refreshPoll now)

/-- A Boolean or-ed with another stays, or the other one raises it. -/
theorem or_eq_left_or_raised (b e : Bool) : (b || e) = b ∨ ((b || e) = true ∧ e = true) := by
  cases b <;> cases e <;> simp

theorem move_causes {dx dy : Int} {s t : State} (h : exec (.move dx dy) s = .next t) :
    CausesKeptOrRaised (.move dx dy) s t := by
  obtain ⟨_, rfl⟩ := move_inversion h
  simp only [irqEdge_eq, latchMove_eq, movedTo]
  refine ⟨(or_eq_left_or_raised _ _).imp_right fun ⟨hraised, henabled⟩ => ?_, .inl rfl, .inl rfl⟩
  exact ⟨hraised, (Bool.and_eq_true_iff.1 henabled).2, dx, dy, rfl⟩

theorem button_causes {k : Nat} {p : Bool} {s t : State} (h : exec (.button k p) s = .next t) :
    CausesKeptOrRaised (.button k p) s t := by
  obtain ⟨_, rfl⟩ := button_inversion h
  simp only [irqEdge_eq, buttonReport, setButton_eq]
  refine ⟨.inl rfl, (or_eq_left_or_raised _ _).imp_right fun ⟨hraised, henabled⟩ => ?_, .inl rfl⟩
  exact ⟨hraised, henabled, k, p, rfl⟩

theorem refreshPoll_causes {now : Nat} {s t : State} (h : exec (.refreshPoll now) s = .next t) :
    CausesKeptOrRaised (.refreshPoll now) s t := by
  obtain ⟨_, rfl⟩ := refreshPoll_inversion h
  rw [irqEdge_eq]
  rcases refreshTimer_cases now { quiet s with lastNow := now } with
    ⟨_, he⟩ | ⟨_, _, he⟩ | ⟨d, henabled, _, _, he⟩ | ⟨d, _, _, _, he⟩ <;> rw [he]
  case inr.inr.inl => exact ⟨.inl rfl, .inl rfl, .inr ⟨rfl, henabled, now, rfl⟩⟩
  all_goals exact ⟨.inl rfl, .inl rfl, .inl rfl⟩

theorem report_causes {i : Instr} {s t : State} (h : exec i s = .next t) (hi : IsReport i) :
    CausesKeptOrRaised i s t := by
  rcases hi with ⟨dx, dy, rfl⟩ | ⟨k, p, rfl⟩ | ⟨now, rfl⟩
  · exact move_causes h
  · exact button_causes h
  · exact refreshPoll_causes h

/-- SERVE and a reinitialisation clear all three causes; any other step keeps each or raises it by its own enabled
report. -/
theorem causes_cleared_or_kept {i : Instr} {s t : State} (h : exec i s = .next t) :
    (runsOrReinits 0x2 i s ∧ t.causeMove = false ∧ t.causeBtn = false ∧ t.causeRef = false) ∨
    (¬ runsOrReinits 0x2 i s ∧ CausesKeptOrRaised i s t) := by
  rcases causes_opcodeLatch.written_or_kept h with ⟨hrun, hclear⟩ | ⟨hn, hkept | hi⟩
  · exact .inl ⟨hrun, causes_eq_iff.1 hclear⟩
  · obtain ⟨hm, hb, hr⟩ := causes_eq_iff.1 hkept
    exact .inr ⟨hn, .inl hm, .inl hb, .inl hr⟩
  · exact .inr ⟨hn, report_causes h hi⟩

/-- Settles O54: a step clears all causes, or each stays or is raised by its own report. -/
theorem causesSetAndClearedOnlyByRule : Obligations.CausesSetAndClearedOnlyByRule := by
  intro i s t h
  obtain ⟨hbit1, hbit2, hbit3, _⟩ := statusByte_latch_bits s
  rcases causes_cleared_or_kept h with ⟨hrun, hm, hb, hr⟩ | ⟨hn, hm, hb, hr⟩
  · refine ⟨?_, ?_, ?_, fun _ => hrun, fun _ => ⟨hm, hb, hr⟩, hbit1, hbit2, hbit3⟩
    · simp [hm]
    · simp [hb]
    · simp [hr]
  · refine ⟨?_, ?_, ?_, ?_, fun hrun => absurd hrun hn, hbit1, hbit2, hbit3⟩
    · intro h0 h1
      exact (hm.resolve_left (by simp [h0, h1])).2
    · intro h0 h1
      exact (hb.resolve_left (by simp [h0, h1])).2
    · intro h0 h1
      exact (hr.resolve_left (by simp [h0, h1])).2
    · rintro (⟨h0, h1⟩ | ⟨h0, h1⟩ | ⟨h0, h1⟩)
      · simp [h0, h1] at hm
      · simp [h0, h1] at hb
      · simp [h0, h1] at hr

/-! ### MOVED (10_state R41) -/

theorem moved_opcodeLatch : OpcodeLatch 0x1 State.moved fun t => t.moved = false where
  mouse := fun ⟨_, _, _, _, _, _, _, _, _, hmoved, _⟩ => hmoved
  command h := by
    rw [(command_latches h).moved]
    split <;> rfl
  reinit := by
    rintro u t ⟨r, o, rfl⟩
    rfl

/-- A movement report sets MOVED exactly when it changes the position (44_mouse_engine R273). -/
theorem move_moved {dx dy : Int} {s t : State} (h : exec (.move dx dy) s = .next t) :
    t.moved = (s.moved || decide (t.x ≠ s.x ∨ t.y ≠ s.y)) := by
  obtain ⟨_, rfl⟩ := move_inversion h
  simp only [irqEdge_eq, latchMove_eq, movedTo, quiet_moved]

theorem moved_of_other_report {i : Instr} {s t : State} (h : exec i s = .next t) (hi : IsReport i)
    (hm : ∀ dx dy, i ≠ .move dx dy) : t.moved = s.moved := by
  rcases hi with ⟨dx, dy, rfl⟩ | ⟨k, p, rfl⟩ | ⟨now, rfl⟩
  · exact absurd rfl (hm dx dy)
  · obtain ⟨_, rfl⟩ := button_inversion h
    simp [irqEdge_eq, buttonReport, setButton_eq]
  · obtain ⟨_, rfl⟩ := refreshPoll_inversion h
    rw [irqEdge_eq]
    rcases refreshTimer_cases now { quiet s with lastNow := now } with
      ⟨_, he⟩ | ⟨_, _, he⟩ | ⟨d, _, _, _, he⟩ | ⟨d, _, _, _, he⟩ <;> rw [he] <;> rfl

/-- Settles O56: a movement report sets MOVED by the change of position, and any other step keeps or clears it. -/
theorem movedLatchRule : Obligations.MovedLatchRule := by
  intro i s t h
  obtain ⟨_, _, _, hbit⟩ := statusByte_latch_bits s
  by_cases hmove : ∃ dx dy, i = .move dx dy
  · have hn := not_runsOrReinits_of_report (.inl hmove) 0x1 s
    obtain ⟨dx, dy, rfl⟩ := hmove
    have hm := move_moved h
    refine ⟨fun h0 h1 => ⟨⟨dx, dy, rfl⟩, ?_⟩, fun _ _ _ hchanged => by simp [hm, hchanged], fun h0 h1 => ?_,
      fun hrun => absurd hrun hn, hbit⟩
    · rw [h0, h1, Bool.false_or] at hm
      exact of_decide_eq_true hm.symm
    · simp [h0, h1] at hm
  · have hne : ∀ dx dy, i ≠ .move dx dy := fun dx dy hi => hmove ⟨dx, dy, hi⟩
    have hcases : (runsOrReinits 0x1 i s ∧ t.moved = false) ∨ (¬ runsOrReinits 0x1 i s ∧ t.moved = s.moved) :=
      (moved_opcodeLatch.written_or_kept h).imp_right fun ⟨hn, hk⟩ =>
        ⟨hn, hk.elim id fun hi => moved_of_other_report h hi hne⟩
    refine ⟨?_, fun dx dy hi => absurd hi (hne dx dy), ?_, ?_, hbit⟩ <;> rcases hcases with ⟨hrun, hm⟩ | ⟨hn, hm⟩
    · simp [hm]
    · simp +contextual [hm]
    · exact fun _ _ => hrun
    · simp +contextual [hm]
    · exact fun _ => hm
    · exact fun hrun => absurd hrun hn

end Sys2Proof.Machine
end

section
/-!
PROOFS. The invariant: each operation, each kind of instruction and each step keeps it, and under it nothing faults
(10_state R29 to R49, 60_exceptions R310).
-/

namespace Sys2Proof.Machine

/-! ### What admissible parameters give -/

/-- The constraints of `Params.valid` that the invariant's proofs use, by name. -/
structure ParamBounds (p : Params) : Prop where
  pageCount : p.pageCount = 2 ^ p.pageBits
  pageSize : p.pageSize = 2 ^ p.pageSize.log2
  interval50 : p.interval50 ≤ 20000
  interval60 : p.interval60 ≤ 20000
  intervalReset : p.intervalReset ≤ 20000
  coordW : 2 ^ 16 ≤ 2 ^ p.coordW
  clampMax : p.clampMaxDefault < 2 ^ p.coordW
  rbufN : 5 ≤ p.rbufN

theorem paramBounds {p : Params} (h : p.valid) : ParamBounds p := by
  obtain ⟨_, _, _, _, _, _, _, _, hcount, hsize, _, h50, h60, hreset, _, hw, hmax, _, _, hr⟩ := h
  exact ⟨hcount.symm, hsize.symm, h50, h60, hreset, Nat.pow_le_pow_right (by decide) hw, hmax, hr⟩

/-- A ROM-window index lies in the image while ROMOFF is fresh (41_bus_dispatch R156). -/
theorem romIndex_lt {s : State} (h : Inv s) (addr : Addr) : romIndex s addr < s.params.romSize := by
  have hp := paramBounds h.params
  rw [Params.romSize, hp.pageCount, mul_comm, hp.pageSize, ← pow_add]
  refine Nat.or_lt_two_pow ?_ ?_
  · have hlow : s.params.pageSize - 1 < 2 ^ s.params.pageSize.log2 := by
      rw [hp.pageSize]
      simp
    have hle : addr.toNat &&& (s.params.pageSize - 1) ≤ s.params.pageSize - 1 := Nat.and_le_right
    exact (hle.trans_lt hlow).trans_le (Nat.pow_le_pow_right (by decide) (Nat.le_add_right ..))
  · rw [h.romoff, romPageOffset, pow_add, ← hp.pageSize]
    have hpos : 0 < s.params.pageSize := hp.pageSize ▸ Nat.two_pow_pos _
    exact Nat.mul_lt_mul_of_pos_left (Nat.mod_lt _ (Nat.two_pow_pos _)) hpos

theorem rinterval_le {s : State} (h : Inv s) : s.rinterval ≤ 20000 := by
  have hp := paramBounds h.params
  rcases h.interval with he | he | he <;> rw [he]
  exacts [hp.interval50, hp.interval60, hp.intervalReset]

/-! ### The shared operations -/

theorem inv_quiet {s : State} (h : Inv s) : Inv (quiet s) := { h with }

theorem inv_inputs {s : State} (rest : List Stimulus) (h : Inv s) : Inv { s with inputs := rest } := { h with }

theorem inv_reinit {s : State} (h : Inv s) : Inv (reinit s) :=
  have hp := paramBounds h.params
  have hpos : 0 < 2 ^ s.params.coordW := Nat.two_pow_pos _
  { h with
    romoff := rfl
    clampX := Nat.zero_le _
    clampY := Nat.zero_le _
    coords := ⟨hpos, hpos, hpos, hpos, hpos, hp.clampMax, hpos, hp.clampMax⟩
    replies := Nat.zero_le _
    pbufLength := List.length_replicate
    rbufLength := List.length_replicate
    pbufTail := fun _ hb => List.eq_of_mem_replicate (List.mem_of_mem_drop hb)
    rbufTail := fun _ hb => List.eq_of_mem_replicate (List.mem_of_mem_drop hb)
    awaiting := Nat.zero_le _
    interval := .inr (.inr rfl)
    deadline := nofun
    irqCause := nofun }

theorem inv_irqEdge {s : State} (before : Bool) (h : Inv s) : Inv (irqEdge before s) := by
  rw [irqEdge_eq]
  refine { h with irqCause := fun hirq => ?_ }
  rcases Bool.or_eq_true_iff.1 hirq with hs | hnew
  · exact h.irqCause hs
  · exact (Bool.and_eq_true_iff.1 hnew).2

theorem inv_serveInterrupt {s : State} (h : Inv s) : Inv (serveInterrupt s) := { h with irqCause := nofun }

theorem inv_expose {s : State} (h : Inv s) : Inv (expose s) := { h with }

/-- A staged reply overwrites the entries below its length, so the unused ones stay 0 (42_protocol R187). -/
theorem inv_stageReply {s : State} {r : List Byte} (hr : r.length ≤ 5) (h : Inv s) : Inv (stageReply r s) := by
  have hn := (paramBounds h.params).rbufN
  have hlen := h.rbufLength
  refine inv_expose { h with replies := hr, rbufLength := ?_, rbufTail := ?_ }
  · simp only [List.length_append, List.length_drop]
    omega
  · have htail : (r ++ s.rbuf.drop r.length).drop 5 = s.rbuf.drop 5 := by
      rw [List.drop_append, List.drop_of_length_le hr, List.drop_drop, List.nil_append]
      congr 1
      omega
    exact htail ▸ h.rbufTail

theorem inv_readAck {s : State} (h : Inv s) : Inv (readAck s) := by
  rcases readAck_cases s with ⟨_, he⟩ | ⟨n, hn, he⟩ <;> rw [he]
  · exact h
  · have hle := h.replies
    exact { h with replies := by simp only; omega }

theorem inv_acceptByte {s : State} (b : Byte) (h : Inv s) : Inv (acceptByte b s).1 := by
  rcases acceptByte_cases s b with ⟨_, he⟩ | ⟨n, hn, hpcnt, he⟩ <;> rw [he]
  · exact { h with awaiting := le_rfl }
  · have hawait := h.awaiting
    refine { h with
      awaiting := by simp only; omega
      pbufLength := (List.length_set ..).trans h.pbufLength
      pbufTail := ?_ }
    simp only [List.drop_set_of_lt hn]
    exact h.pbufTail

theorem inv_driveFeedback {s : State} (h : Inv s) : Inv (driveFeedback s) := by
  rw [driveFeedback_eq]
  exact { h with }

/-- The handshake of a poll keeps the invariant (42_protocol R180). -/
theorem inv_pollHandshake {s : State} (h : Inv s) : Inv (pollHandshake s).1 := by
  have hseen : Inv (driveFeedback { s with pbsnap := portB s }) := inv_driveFeedback { h with }
  simp only [pollHandshake]
  split_ifs
  · exact inv_acceptByte _ (inv_readAck hseen)
  · exact inv_acceptByte _ hseen
  · exact inv_readAck hseen
  · exact hseen

/-! ### Samples -/

/-- A dispatch keeps the invariant: ROMOFF, the debug latch and the ROM image by its effect, the rest by its frame. -/
theorem inv_dispatch {i : Instr} {addr : Addr} {s u : State} (hu : DispatchEffect i addr s u) (h : Inv s) : Inv u := by
  obtain ⟨⟨hproto, hmouse, _, _, _, hparams, _, hnow, _⟩, hromoff, hdbg, hrom⟩ := hu
  obtain ⟨hcmd, hpcnt, hpbuf, hrbuf, hrcnt, _⟩ := hproto
  obtain ⟨hx, hy, hpx, hpy, _, _, _, _, _, _, hcm, hcb, hcr, hminx, hmaxx, hminy, hmaxy, hri, hrd, hirq⟩ := hmouse
  constructor
  case romoff => exact hromoff h.romoff
  case debug => exact fun hd => hparams ▸ (hdbg hd).elim h.debug id
  case romForm =>
    rcases hrom with he | ⟨_, _, _, d, _, he⟩ <;> rw [he]
    exacts [h.romForm, memory_write_wf _ _ h.romForm]
  case romSize =>
    rcases hrom with he | ⟨_, _, hinside, d, _, he⟩ <;> rw [he, hparams]
    exacts [h.romSize, memory_write_inside d hinside h.romSize]
  case params => exact hparams ▸ h.params
  case clampX => rw [hminx, hmaxx]; exact h.clampX
  case clampY => rw [hminy, hmaxy]; exact h.clampY
  case coords => rw [coordsFit, hparams, hx, hy, hpx, hpy, hminx, hmaxx, hminy, hmaxy]; exact h.coords
  case replies => exact hrcnt ▸ h.replies
  case pbufLength => rw [hpbuf, hparams]; exact h.pbufLength
  case rbufLength => rw [hrbuf, hparams]; exact h.rbufLength
  case pbufTail => exact hpbuf ▸ h.pbufTail
  case rbufTail => exact hrbuf ▸ h.rbufTail
  case awaiting => rw [hpcnt, hcmd]; exact h.awaiting
  case interval => rw [hri, hparams]; exact h.interval
  case deadline => rw [hrd, hnow]; exact h.deadline
  case time => rw [hparams, hnow]; exact h.time
  case irqCause => rw [hirq, anyCause, hcm, hcb, hcr]; exact h.irqCause

theorem inv_endSample {s : State} (addr : Addr) (answer : Option Byte) (h : Inv s) : Inv (endSample addr answer s) := by
  rcases endSample_cases s addr answer with ⟨_, _, he⟩ | ⟨_, r, he⟩ <;> rw [he]
  · exact { inv_reinit h with }
  · exact { h with }

theorem inv_sample {i : Instr} {addr : Addr} {s t : State} (hi : sampleAddr i = some addr) (h : exec i s = .next t)
    (hs : Inv s) : Inv t := by
  obtain ⟨u, answer, hu, rfl⟩ := sample_effect hi h
  exact inv_endSample addr answer (inv_dispatch hu hs)

/-! ### Commands -/

/-- A position of stored coordinates keeps the invariant, wherever it lies (10_state R37, R38). -/
theorem inv_position {s : State} (h : Inv s) {x y px py : Nat} (hx : x < 2 ^ s.params.coordW)
    (hy : y < 2 ^ s.params.coordW) (hpx : px < 2 ^ s.params.coordW) (hpy : py < 2 ^ s.params.coordW) :
    Inv { s with x := x, y := y, px := px, py := py } := by
  obtain ⟨_, _, _, _, hrectangle⟩ := h.coords
  exact { h with coords := ⟨hx, hy, hpx, hpy, hrectangle⟩ }

/-- A clamp range of stored coordinates in order keeps the invariant, for either axis (10_state R44). -/
theorem inv_rangeX {s : State} (h : Inv s) {lo hi : Nat} (hle : lo ≤ hi) (hhi : hi < 2 ^ s.params.coordW) :
    Inv { s with minx := lo, maxx := hi } := by
  obtain ⟨hx, hy, hpx, hpy, _, _, hymin, hymax⟩ := h.coords
  exact { h with clampX := hle, coords := ⟨hx, hy, hpx, hpy, hle.trans_lt hhi, hhi, hymin, hymax⟩ }

theorem inv_rangeY {s : State} (h : Inv s) {lo hi : Nat} (hle : lo ≤ hi) (hhi : hi < 2 ^ s.params.coordW) :
    Inv { s with miny := lo, maxy := hi } := by
  obtain ⟨hx, hy, hpx, hpy, hxmin, hxmax, _, _⟩ := h.coords
  exact { h with clampY := hle, coords := ⟨hx, hy, hpx, hpy, hxmin, hxmax, hle.trans_lt hhi, hhi⟩ }

theorem inv_homePosition {s : State} (h : Inv s) : Inv (homePosition s) := by
  obtain ⟨_, _, _, _, hxmin, _, hymin, _⟩ := h.coords
  exact inv_position h hxmin hymin hxmin hymin

theorem inv_reclamp {s : State} (h : Inv s) : Inv (reclamp s) := by
  obtain ⟨_, _, hpx, hpy, _⟩ := h.coords
  exact inv_position h (toCoord_lt ..) (toCoord_lt ..) hpx hpy

/-- The copies that read status makes are of stored coordinates (43_commands R221). -/
theorem inv_execReadStatus (sub : BitVec 4) {s t : State} (he : execReadStatus sub s = .next t) (h : Inv s) :
    Inv t := by
  have hstaged : Inv (stageReply (statusReply s) s) := inv_stageReply le_rfl h
  obtain ⟨hx, hy, _⟩ := h.coords
  cases he
  exact { inv_position hstaged hx hy hx hy with }

/-- The default rectangle of INIT is in order and fits (43_commands R225). -/
theorem inv_execInit (sub : BitVec 4) {s t : State} (he : execInit sub s = .next t) (h : Inv s) : Inv t := by
  have hmax := (paramBounds h.params).clampMax
  have hunarmed : Inv { s with rdeadline := none } := { h with deadline := nofun }
  have hrange := inv_rangeY (inv_rangeX hunarmed (Nat.zero_le _) hmax) (Nat.zero_le _) hmax
  cases he
  exact { inv_homePosition hrange with irqCause := nofun }

/-- Set clamp stores bounds in order: their operands have 16 bits, so no store loses a bit (43_commands R226). -/
theorem inv_execSetClamp (sub : BitVec 3) (axisY : Bool) {s t : State} (he : execSetClamp sub axisY s = .next t)
    (h : Inv s) : Inv t := by
  have hw := (paramBounds h.params).coordW
  obtain ⟨hle, hmax⟩ := clampBounds_ordered (clampBoundA s) (clampBoundB s)
  have ha : clampBoundA s < 2 ^ 16 := word16_lt ..
  have hb : clampBoundB s < 2 ^ 16 := word16_lt ..
  have hhi : (clampBounds (clampBoundA s) (clampBoundB s)).2 < 2 ^ s.params.coordW := by omega
  have hstored : toCoord s.params (clampBounds (clampBoundA s) (clampBoundB s)).1 ≤
      toCoord s.params (clampBounds (clampBoundA s) (clampBoundB s)).2 := by
    rw [toCoord_of_fits hhi, toCoord_of_fits (hle.trans_lt hhi)]
    exact hle
  cases he
  refine inv_reclamp ?_
  split
  · exact inv_rangeY h hstored (toCoord_lt ..)
  · exact inv_rangeX h hstored (toCoord_lt ..)

/-- Every command keeps the invariant (43_commands). -/
theorem inv_command {c : Byte} {s t : State} (he : exec (decodeCommand c) s = .next t) (h : Inv s) : Inv t := by
  have hpos : 0 < 2 ^ s.params.coordW := Nat.two_pow_pos _
  have ⟨_, _, hpx, hpy, _⟩ := h.coords
  generalize hi : decodeCommand c = i at he
  have hcmd : encode i = .command c := hi ▸ encode_decodeCommand c
  cases i with
  | setMode m => cases he; exact { h with }
  | readStatus sub => exact inv_execReadStatus sub he h
  | serve sub => cases he; exact inv_serveInterrupt (inv_stageReply (r := [_]) (by simp) h)
  | clearPos sub => cases he; exact inv_position h hpos hpos hpx hpy
  | setPos sub => cases he; exact inv_position h (toCoord_lt ..) (toCoord_lt ..) (toCoord_lt ..) (toCoord_lt ..)
  | init sub => exact inv_execInit sub he h
  | setClamp sub axisY => exact inv_execSetClamp sub axisY he h
  | home sub => cases he; exact inv_homePosition h
  | setTiming count ignored hz50 =>
    cases he
    cases hz50
    · exact { h with interval := .inr (.inl rfl) }
    · exact { h with interval := .inl rfl }
  | nop8 | vendor | nopB | nopC | nopD | nopE | nopF => cases he; exact h
  | _ => cases hcmd

/-- A poll keeps the invariant: its handshake does, and so does the command it completes. -/
theorem inv_protoPoll {s t : State} (he : exec .protoPoll s = .next t) (h : Inv s) : Inv t := by
  have hs := inv_pollHandshake (inv_quiet h)
  rcases protoPoll_cases he with ⟨_, rfl⟩ | ⟨c, _, hc⟩
  · exact hs
  · exact inv_command hc hs

/-! ### Reports -/

/-- While no cause falls, a latched one stays latched. -/
theorem anyCause_mono {s t : State} (h : anyCause s = true) (hm : s.causeMove = true → t.causeMove = true)
    (hb : s.causeBtn = true → t.causeBtn = true) (hr : s.causeRef = true → t.causeRef = true) : anyCause t = true := by
  simp only [anyCause, Bool.or_eq_true] at h ⊢
  tauto

theorem inv_move {dx dy : Int} {s t : State} (he : exec (.move dx dy) s = .next t) (h : Inv s) : Inv t := by
  obtain ⟨_, rfl⟩ := move_inversion he
  obtain ⟨_, _, hpx, hpy, _⟩ := h.coords
  have hmoved : Inv (movedTo dx dy (quiet s)) := inv_position (inv_quiet h) (toCoord_lt ..) (toCoord_lt ..) hpx hpy
  rw [latchMove_eq]
  refine inv_irqEdge _ { hmoved with irqCause := fun hirq => ?_ }
  exact anyCause_mono (hmoved.irqCause hirq) (fun hm => by simp [hm]) id id

theorem inv_button {k : Nat} {p : Bool} {s t : State} (he : exec (.button k p) s = .next t) (h : Inv s) : Inv t := by
  obtain ⟨_, rfl⟩ := button_inversion he
  rw [buttonReport, setButton_eq]
  refine inv_irqEdge _ { h with irqCause := fun hirq => ?_ }
  exact anyCause_mono (h.irqCause hirq) id (fun hb => by simp [hb]) id

/-- The time of a poll becomes the latest one; an armed deadline is no further ahead of it (44_mouse_engine R279). -/
theorem inv_lastNow {s : State} {now : Nat} (htime : timeInRange s.params now) (hle : s.lastNow ≤ now) (h : Inv s) :
    Inv { s with lastNow := now } :=
  { h with
    time := htime
    deadline := fun d hd => (h.deadline d hd).trans (Nat.add_le_add_right hle _) }

/-- A stored deadline is no larger than the sum it stores. -/
theorem toTime_le (p : Params) (n : Nat) : toTime p n ≤ n := Nat.mod_le ..

theorem inv_deadline {s : State} {d : Nat} (hd : d ≤ s.lastNow + 20000) (h : Inv s) :
    Inv { s with rdeadline := some d } :=
  { h with deadline := fun _ he => Option.some.inj he ▸ hd }

/-- The timer arms or advances the deadline by one interval, at most 20000 after the poll (44_mouse_engine R279). -/
theorem inv_refreshTimer {s : State} (h : Inv s) : Inv (refreshTimer s.lastNow s) := by
  have hri := rinterval_le h
  rcases refreshTimer_cases s.lastNow s with ⟨_, he⟩ | ⟨_, _, he⟩ | ⟨d, _, _, hd, he⟩ | ⟨d, _, _, _, he⟩ <;> rw [he]
  · exact { h with deadline := nofun }
  · exact inv_deadline ((toTime_le ..).trans (by omega)) h
  · have hraised : Inv { s with causeRef := true } :=
      { h with irqCause := fun hirq => anyCause_mono (h.irqCause hirq) id id fun _ => rfl }
    exact inv_deadline ((toTime_le ..).trans (by simp only; omega)) hraised
  · exact h

theorem inv_refreshPoll {now : Nat} {s t : State} (he : exec (.refreshPoll now) s = .next t) (h : Inv s) : Inv t := by
  obtain ⟨⟨htime, hle⟩, rfl⟩ := refreshPoll_inversion he
  exact inv_irqEdge _ (inv_refreshTimer (inv_lastNow (s := quiet s) htime hle (inv_quiet h)))

/-! ### Every instruction and every step -/

/-- Every instruction that answers a next state keeps the invariant. -/
theorem inv_exec {i : Instr} {s t : State} (he : exec i s = .next t) (h : Inv s) : Inv t := by
  cases instrKind i with
  | sample hi => exact inv_sample hi he h
  | command c => exact inv_command he h
  | protoPoll => exact inv_protoPoll he h
  | move dx dy => exact inv_move he h
  | button k p => exact inv_button he h
  | refreshPoll now => exact inv_refreshPoll he h
  | setInput port v => cases port <;> cases he <;> exact { inv_quiet h with }
  | reinitialize => cases he; exact inv_reinit (inv_quiet h)

/-- No instruction writes the parameters (log 2). -/
theorem exec_params {i : Instr} {s t : State} (he : exec i s = .next t) : t.params = s.params := by
  cases instrKind i with
  | sample hi =>
    obtain ⟨u, answer, hu, rfl⟩ := sample_effect hi he
    rw [endSample_params, hu.frame.params]
  | command c => exact (commandFrame_of_next he).params
  | protoPoll =>
    have hs := (handshakeFrame_poll s).params
    rcases protoPoll_cases he with ⟨_, rfl⟩ | ⟨c, _, hc⟩
    exacts [hs, (commandFrame_of_next hc).params.trans hs]
  | move dx dy => exact (move_frame he).params
  | button k p => exact (button_frame he).params
  | refreshPoll now => exact (refreshPoll_frame he).params
  | setInput port v => cases port <;> cases he <;> rfl
  | reinitialize => cases he; rfl

/-- Only a ROM-window index outside the image makes an instruction fault (60_exceptions R310, log 5). -/
theorem romIndex_of_fault {i : Instr} {s : State} {f : Fault} (he : exec i s = .fault f) :
    ∃ addr, ¬ romIndex s addr < s.params.romSize := by
  cases instrKind i with
  | @sample _ addr hi =>
    cases i with
    | busRRom a =>
      change execBusRRom a s = _ at he
      unfold execBusRRom at he
      split at he
      · cases he
      · exact ⟨a, ‹_›⟩
    | busWRom a d =>
      change execBusWRom a d s = _ at he
      unfold execBusWRom at he
      split_ifs at he with _ hinside
      exact ⟨a, hinside⟩
    | busWR0 | busRR0 | busWR1 | busRR1 | busWR2 | busRR2 | busWR3 | busRR3 | busUnsel | busSelNowin => cases he
    | _ => cases hi
  | command c =>
    obtain ⟨t, ht, _⟩ := command_completes c s
    rw [ht] at he
    cases he
  | protoPoll =>
    rw [protoPoll_eq] at he
    split at he
    next c _ =>
      obtain ⟨t, ht, _⟩ := command_completes c (pollHandshake (quiet s)).1
      rw [ht] at he
      cases he
    next => cases he
  | move dx dy => simp only [exec, execMove] at he; split at he <;> cases he
  | button k p => simp only [exec, execButton] at he; split at he <;> cases he
  | refreshPoll now => simp only [exec, execRefreshPoll] at he; split_ifs at he
  | setInput port v => cases port <;> cases he
  | reinitialize => cases he

theorem exec_ne_fault {s : State} (h : Inv s) (i : Instr) (f : Fault) : exec i s ≠ .fault f := fun he =>
  have ⟨addr, houtside⟩ := romIndex_of_fault he
  houtside (romIndex_lt h addr)

/-- One step: nothing comes, or the next action is refused, or it is taken off the list and executed (20_memory R66). -/
theorem step_cases (s : State) :
    step s = .next s ∨ (∃ r, step s = .refused r) ∨ ∃ i rest, step s = exec i { s with inputs := rest } := by
  unfold step fetch
  cases s.inputs with
  | nil => exact .inl rfl
  | cons a rest =>
    cases hadmit : admission s.params a with
    | some r => exact .inr (.inl ⟨r, by simp only [hadmit]⟩)
    | none => exact .inr (.inr ⟨decodeStimulus a, rest, by simp only [hadmit]⟩)

/-- Settles O58: a step is nothing, a refusal, or an instruction, which keeps the invariant and the parameters. -/
theorem everyStepKeepsInvariant : Obligations.EveryStepKeepsInvariant := by
  intro s h
  rcases step_cases s with he | ⟨r, he⟩ | ⟨i, rest, he⟩ <;> rw [he]
  · refine ⟨fun t ht => ?_, fun f => by simp⟩
    cases ht
    exact ⟨h, rfl⟩
  · exact ⟨fun t ht => (by cases ht), fun f => by simp⟩
  · have hs := inv_inputs rest h
    exact ⟨fun t ht => ⟨inv_exec ht hs, (exec_params ht :)⟩, exec_ne_fault hs i⟩

end Sys2Proof.Machine
end

section
/-!
PROOFS. The memory rules: a read answers from what no read changes, and a step runs the next admitted action
(20_memory R64, R66).
-/

namespace Sys2Proof.Machine

/-! ### Reads -/

/-- The byte a read sample answers in a state; none for an instruction that is no read (20_memory R63). -/
def readByte (s : State) : Instr → Option Byte
  | .busRR0 _ _ => some (regRead0 s)
  | .busRR1 _ _ => some (regRead1 s)
  | .busRR2 _ _ => some (regRead2 s)
  | .busRR3 _ _ => some (regRead3 s)
  | .busRRom addr => some (Memory.read s.rom (romIndex s addr))
  | _ => none

/-- A read that answers a next state drives its byte and changes nothing but by the detector (20_memory R63). -/
theorem read_inversion {i : Instr} {s t : State} {b : Byte} (hb : readByte s i = some b) (h : exec i s = .next t) :
    ∃ addr, sampleAddr i = some addr ∧ t = endSample addr (some b) s := by
  cases i with
  | busRR0 rom addr | busRR1 rom addr | busRR2 rom addr | busRR3 rom addr =>
    cases hb; cases h; exact ⟨addr, rfl, rfl⟩
  | busRRom addr =>
    cases hb
    change execBusRRom addr s = _ at h
    unfold execBusRRom at h
    split at h <;> cases h
    exact ⟨addr, rfl, rfl⟩
  | _ => cases hb

/-- No read looks at the detector or at the last output. -/
theorem readByte_rstate_out (i : Instr) (s : State) (r : RState) (o : Option Byte) :
    readByte { s with rstate := r, out := o } i = readByte s i := by
  cases i <;> rfl

/-- A read that does not complete the reset fingerprint leaves its own answer as it was (20_memory R64). -/
theorem readByte_of_read {i : Instr} {s t : State} {b : Byte} (hb : readByte s i = some b)
    (hn : ¬ completesFingerprint i s) (h : exec i s = .next t) : readByte t i = some b := by
  obtain ⟨addr, hi, rfl⟩ := read_inversion hb h
  rcases endSample_cases s addr (some b) with ⟨hr, ha, _⟩ | ⟨_, r, he⟩
  · exact absurd ⟨hr, by rw [hi, ha]⟩ hn
  · rw [he, readByte_rstate_out, hb]

theorem out_of_read {i : Instr} {s t : State} {b : Byte} (hb : readByte s i = some b) (h : exec i s = .next t) :
    t.out = some b := by
  obtain ⟨addr, _, rfl⟩ := read_inversion hb h
  exact endSample_out s addr (some b)

/-- Settles O15: the first read leaves the second the same byte to answer, and each drives its answer. -/
theorem readsAreIdempotent : Obligations.ReadsAreIdempotent := by
  intro i rom addr s t u hi hn ht hu
  have hread : ∃ b, readByte s i = some b := by
    simp only [List.mem_cons, List.not_mem_nil, or_false] at hi
    rcases hi with rfl | rfl | rfl | rfl | rfl <;> exact ⟨_, rfl⟩
  obtain ⟨b, hb⟩ := hread
  have hfirst : t.out = some b := out_of_read hb ht
  have hsecond : u.out = some b := out_of_read (readByte_of_read hb hn ht) hu
  exact ⟨by rw [hsecond, hfirst], by simp [hfirst]⟩

/-! ### The next action -/

/-- Only a sample whose flags disagree with the windows is turned away before its instruction is looked at (60_exceptions
R311). -/
theorem admission_eq_none_iff (p : Params) (a : Stimulus) :
    admission p a = none ↔ ∀ w data, a = .sample w data → flagsAgree p (BusSample.ofWord w data) := by
  cases a with
  | sample w data => simp [admission]
  | _ => exact iff_of_true rfl nofun

theorem admission_of_disagree {p : Params} {w : BitVec 20} {data : Byte}
    (h : ¬ flagsAgree p (BusSample.ofWord w data)) : admission p (.sample w data) = some .sampleFlagsDisagree :=
  if_neg h

theorem step_of_nil {s : State} (h : s.inputs = []) : step s = .next s := by
  simp only [step, fetch, h]

theorem step_of_admitted {s : State} {a : Stimulus} {rest : List Stimulus} (h : s.inputs = a :: rest)
    (ha : admission s.params a = none) : step s = exec (decodeStimulus a) { s with inputs := rest } := by
  simp only [step, fetch, h, ha]

theorem step_of_refused {s : State} {a : Stimulus} {rest : List Stimulus} {r : Refusal} (h : s.inputs = a :: rest)
    (ha : admission s.params a = some r) : step s = .refused r := by
  simp only [step, fetch, h, ha]

/-- Settles O6: by what admission says of the action at the head of the list, if there is one. -/
theorem stepRunsNextAction : Obligations.StepRunsNextAction := fun s =>
  ⟨fun a _ h hagree => step_of_admitted h ((admission_eq_none_iff s.params a).2 hagree),
    fun _ _ _ h hdisagree => step_of_refused h (admission_of_disagree hdisagree),
    step_of_nil⟩

end Sys2Proof.Machine
end

section
/-!
PROOFS. The encodings: each sample and each command byte is of one row, which the decoder, the encoder and the opcode
table agree on (30_encoding), and the bits of the status byte.
-/

namespace Sys2Proof

/-! ### Bus samples -/

/-- The sample word of a sample (30_encoding R81). -/
def BusSample.word (b : BusSample) : BitVec 20 := sampleWord b.sel b.rom b.dev b.rw b.addr

@[simp] theorem ofWord_word (b : BusSample) (d : Byte) : BusSample.ofWord b.word d = { b with data := d } :=
  ofWord_sampleWord ..

theorem word_ofWord (w : BitVec 20) (d : Byte) : (BusSample.ofWord w d).word = w :=
  sampleWord_ofWord w

/-- The samples of each bus row of opcode_table.json: its fixed flags and its register select (30_encoding R81, R82). -/
inductive SampleRow : BusSample → Instr → Prop where
  | busWR0 {rom addr d} (h : addr.extractLsb' 0 2 = 0#2) :
      SampleRow ⟨true, rom, true, false, addr, d⟩ (.busWR0 rom addr d)
  | busRR0 {rom addr d} (h : addr.extractLsb' 0 2 = 0#2) :
      SampleRow ⟨true, rom, true, true, addr, d⟩ (.busRR0 rom addr)
  | busWR1 {rom addr d} (h : addr.extractLsb' 0 2 = 1#2) :
      SampleRow ⟨true, rom, true, false, addr, d⟩ (.busWR1 rom addr d)
  | busRR1 {rom addr d} (h : addr.extractLsb' 0 2 = 1#2) :
      SampleRow ⟨true, rom, true, true, addr, d⟩ (.busRR1 rom addr)
  | busWR2 {rom addr d} (h : addr.extractLsb' 0 2 = 2#2) :
      SampleRow ⟨true, rom, true, false, addr, d⟩ (.busWR2 rom addr d)
  | busRR2 {rom addr d} (h : addr.extractLsb' 0 2 = 2#2) :
      SampleRow ⟨true, rom, true, true, addr, d⟩ (.busRR2 rom addr)
  | busWR3 {rom addr d} (h : addr.extractLsb' 0 2 = 3#2) :
      SampleRow ⟨true, rom, true, false, addr, d⟩ (.busWR3 rom addr d)
  | busRR3 {rom addr d} (h : addr.extractLsb' 0 2 = 3#2) :
      SampleRow ⟨true, rom, true, true, addr, d⟩ (.busRR3 rom addr)
  | busRRom {addr d} : SampleRow ⟨true, true, false, true, addr, d⟩ (.busRRom addr)
  | busWRom {addr d} : SampleRow ⟨true, true, false, false, addr, d⟩ (.busWRom addr d)
  | busUnsel {rom dev rw addr d} : SampleRow ⟨false, rom, dev, rw, addr, d⟩ (.busUnsel rom dev rw addr)
  | busSelNowin {rw addr d} : SampleRow ⟨true, false, false, rw, addr, d⟩ (.busSelNowin rw addr)

theorem decodeBusSample_of_row {b : BusSample} {i : Instr} (h : SampleRow b i) : decodeBusSample b = i := by
  cases h with
  | busWR0 h | busRR0 h | busWR1 h | busRR1 h | busWR2 h | busRR2 h | busWR3 h | busRR3 h =>
    simp [decodeBusSample, classify, decodeDevice, h]
  | _ => rfl

/-- Every access of the device window is of the row of its register select and direction. -/
theorem sampleRow_device (rom rw : Bool) (addr : Addr) (d : Byte) :
    ∃ i, SampleRow ⟨true, rom, true, rw, addr, d⟩ i := by
  have hselect : ∀ rs : BitVec 2, rs = 0#2 ∨ rs = 1#2 ∨ rs = 2#2 ∨ rs = 3#2 := by decide
  cases rw with
  | true =>
    rcases hselect (addr.extractLsb' 0 2) with h | h | h | h
    exacts [⟨_, .busRR0 h⟩, ⟨_, .busRR1 h⟩, ⟨_, .busRR2 h⟩, ⟨_, .busRR3 h⟩]
  | false =>
    rcases hselect (addr.extractLsb' 0 2) with h | h | h | h
    exacts [⟨_, .busWR0 h⟩, ⟨_, .busWR1 h⟩, ⟨_, .busWR2 h⟩, ⟨_, .busWR3 h⟩]

/-- Every sample is of a row (30_encoding R95). -/
theorem exists_sampleRow : ∀ b : BusSample, ∃ i, SampleRow b i
  | ⟨false, _, _, _, _, _⟩ => ⟨_, .busUnsel⟩
  | ⟨true, _, true, _, _, _⟩ => sampleRow_device ..
  | ⟨true, true, false, true, _, _⟩ => ⟨_, .busRRom⟩
  | ⟨true, true, false, false, _, _⟩ => ⟨_, .busWRom⟩
  | ⟨true, false, false, _, _, _⟩ => ⟨_, .busSelNowin⟩

/-- The row of a sample is the one the decoder reads. -/
theorem sampleRow_iff (b : BusSample) (i : Instr) : SampleRow b i ↔ decodeBusSample b = i := by
  refine ⟨decodeBusSample_of_row, ?_⟩
  rintro rfl
  obtain ⟨j, hj⟩ := exists_sampleRow b
  rwa [decodeBusSample_of_row hj]

theorem wellFormed_of_row {b : BusSample} {i : Instr} (h : SampleRow b i) : i.wellFormed := by
  cases h with
  | busWR0 h | busRR0 h | busWR1 h | busRR1 h | busWR2 h | busRR2 h | busWR3 h | busRR3 h => exact h
  | _ => trivial

/-- The encoder writes a row's sample word, and its data byte where a window takes a write (30_encoding R80, R81). -/
theorem encode_of_row {b : BusSample} {i : Instr} (h : SampleRow b i) :
    encode i = .stimulus (.sample b.word (if classify b ≠ .none ∧ b.rw = false then b.data else 0)) := by
  cases h <;> rfl

/-- The encoder writes a well-formed sample instruction as a sample of its row. -/
theorem sampleRow_of_wellFormed {i : Instr} {addr : Addr} (hi : Machine.sampleAddr i = some addr) (h : i.wellFormed) :
    ∃ b, SampleRow b i ∧ encode i = .stimulus (.sample b.word b.data) := by
  cases i with
  | busWR0 => exact ⟨_, .busWR0 h, rfl⟩
  | busRR0 => exact ⟨_, .busRR0 h, rfl⟩
  | busWR1 => exact ⟨_, .busWR1 h, rfl⟩
  | busRR1 => exact ⟨_, .busRR1 h, rfl⟩
  | busWR2 => exact ⟨_, .busWR2 h, rfl⟩
  | busRR2 => exact ⟨_, .busRR2 h, rfl⟩
  | busWR3 => exact ⟨_, .busWR3 h, rfl⟩
  | busRR3 => exact ⟨_, .busRR3 h, rfl⟩
  | busRRom => exact ⟨_, .busRRom, rfl⟩
  | busWRom => exact ⟨_, .busWRom, rfl⟩
  | busUnsel => exact ⟨_, .busUnsel, rfl⟩
  | busSelNowin => exact ⟨_, .busSelNowin, rfl⟩
  | _ => cases hi

theorem decode_encode_of_sample {i : Instr} {addr : Addr} (hi : Machine.sampleAddr i = some addr) (h : i.wellFormed) :
    decode (encode i) = i := by
  obtain ⟨b, hrow, henc⟩ := sampleRow_of_wellFormed hi h
  calc decode (encode i) = decodeBusSample (BusSample.ofWord b.word b.data) := by rw [henc]; rfl
    _ = i := by rw [ofWord_word, decodeBusSample_of_row hrow]

/-- A sample word is of the row the decoder reads it as. -/
theorem sampleRow_decodeSample (w : BitVec 20) (data : Byte) :
    SampleRow (BusSample.ofWord w data) (decodeSample w data) :=
  (sampleRow_iff _ _).2 rfl

/-- The encoder writes back the word the decoder read. -/
theorem encode_decodeSample (w : BitVec 20) (data : Byte) :
    encode (decodeSample w data) = .stimulus (.sample w
      (if classify (BusSample.ofWord w data) ≠ .none ∧ w.getLsbD 16 = false then data else 0)) := by
  rw [encode_of_row (sampleRow_decodeSample w data), word_ofWord]
  rfl

/-- Settles O1: by the kind of the instruction. -/
theorem decodeEncodeRoundTrip : Obligations.DecodeEncodeRoundTrip := by
  intro i h
  cases Machine.instrKind i with
  | sample hi => exact decode_encode_of_sample hi h
  | command c => rw [encode_decodeCommand]; rfl
  | _ => rfl

theorem wellFormed_decodeCommand (c : Byte) : (decodeCommand c).wellFormed := by
  unfold decodeCommand
  split <;> trivial

/-- Settles O2: a sample by its row, a command byte by its nibbles. -/
theorem encodeDecodeRoundTrip : Obligations.EncodeDecodeRoundTrip :=
  ⟨fun w data => ⟨wellFormed_of_row (sampleRow_decodeSample w data), _, encode_decodeSample w data,
      fun hclass hwrite => if_pos ⟨hclass, hwrite⟩⟩,
    fun c => ⟨wellFormed_decodeCommand c, encode_decodeCommand c⟩⟩

/-! ### The opcode table -/

/-- The patterns of two rows differ at a bit that both masks keep. -/
abbrev Row.Conflicts {n : Nat} (r q : Row n) : Prop := r.pattern &&& q.mask ≠ q.pattern &&& r.mask

theorem not_covers_of_conflicts {n : Nat} {r q : Row n} {w : BitVec n} (hne : r.Conflicts q) (hr : r.covers w = true) :
    ¬ q.covers w = true := by
  intro hq
  simp only [Row.covers, beq_iff_eq] at hr hq
  exact hne (by rw [← hr, ← hq, BitVec.and_assoc, BitVec.and_assoc, BitVec.and_comm r.mask])

/-- In a table whose rows conflict pairwise, a row that covers a word is the only one. -/
theorem filter_covers_eq_singleton {n : Nat} {rows : List (Row n)} {r : Row n} {w : BitVec n}
    (hrows : rows.Pairwise Row.Conflicts) (hmem : r ∈ rows) (hw : r.covers w = true) :
    rows.filter (·.covers w) = [r] := by
  induction rows with
  | nil => cases hmem
  | cons q rest ih =>
    obtain ⟨hq, hrest⟩ := List.pairwise_cons.1 hrows
    rcases List.mem_cons.1 hmem with rfl | hmem
    · have hnone : rest.filter (·.covers w) = [] :=
        List.filter_eq_nil_iff.2 fun p hp => not_covers_of_conflicts (hq p hp) hw
      rw [List.filter_cons, if_pos hw, hnone]
    · rw [List.filter_cons, if_neg (not_covers_of_conflicts (hq r hmem).symm hw), ih hrest hmem]

theorem mnemonics_eq_singleton {n : Nat} {rows : List (Row n)} {w : BitVec n} {name : String}
    (hrows : rows.Pairwise Row.Conflicts) (h : ∃ r ∈ rows, r.mnemonic = name ∧ r.covers w = true) :
    (rows.filter (·.covers w)).map Row.mnemonic = [name] := by
  obtain ⟨r, hmem, rfl, hw⟩ := h
  rw [filter_covers_eq_singleton hrows hmem hw, List.map_singleton]

theorem sampleRows_conflict : sampleRows.Pairwise Row.Conflicts := by decide

theorem commandRows_conflict : commandRows.Pairwise Row.Conflicts := by decide

open Laws in
/-- What the encoder writes has the fixed bits of the instruction's row, for every instruction. -/
theorem rowBits (i : Instr) : RowBits.Statement i := by
  cases i
  exacts [RowBits.busWR0 _ _ _, RowBits.busRR0 _ _, RowBits.busWR1 _ _ _, RowBits.busRR1 _ _, RowBits.busWR2 _ _ _,
    RowBits.busRR2 _ _, RowBits.busWR3 _ _ _, RowBits.busRR3 _ _, RowBits.busRRom _, RowBits.busWRom _ _,
    RowBits.busUnsel _ _ _ _, RowBits.busSelNowin _ _, RowBits.setMode _, RowBits.readStatus _, RowBits.serve _,
    RowBits.clearPos _, RowBits.setPos _, RowBits.init _, RowBits.setClamp _ _, RowBits.home _, RowBits.nop8 _,
    RowBits.setTiming _ _ _, RowBits.vendor _, RowBits.nopB _, RowBits.nopC _, RowBits.nopD _, RowBits.nopE _,
    RowBits.nopF _, RowBits.protoPoll, RowBits.move _ _, RowBits.button _ _, RowBits.refreshPoll _,
    RowBits.setInput _ _, RowBits.reinitialize]

/-- Settles O3: the row of the decoded instruction covers the word it encodes back to, and no two rows share a word. -/
theorem everyWordInExactlyOneRow : Obligations.EveryWordInExactlyOneRow := by
  constructor
  · intro w data
    have hbits := rowBits (decodeSample w data) (wellFormed_of_row (sampleRow_decodeSample w data))
    rw [encode_decodeSample] at hbits
    exact mnemonics_eq_singleton sampleRows_conflict hbits
  · intro c
    have hbits := rowBits (decodeCommand c) (wellFormed_decodeCommand c)
    rw [encode_decodeCommand] at hbits
    exact mnemonics_eq_singleton commandRows_conflict hbits

/-- Settles O4: closed words, by evaluating the decoder. -/
theorem writtenWordsDecode : Obligations.WrittenWordsDecode := by
  unfold Obligations.WrittenWordsDecode
  decide

/-! ### The length of a command -/

/-- The parameter count by the opcode nibble (30_encoding R87). -/
theorem paramCount_val (c : Byte) :
    (paramCount c).val =
      if opcode c = 0x4 ∨ opcode c = 0x6 then 4
      else if opcode c = 0x9 then (c.extractLsb' 2 2).toNat
      else if opcode c = 0xA then 1
      else 0 := by
  simp only [← BitVec.toNat_inj]
  unfold paramCount
  split <;> simp_all

theorem decodeCommandBytes_append {c : Byte} {ps : List Byte} (rest : List Byte)
    (h : ps.length = (paramCount c).val) :
    decodeCommandBytes (c :: (ps ++ rest)) = .ok (decodeCommand c, ps, rest) := by
  simp [decodeCommandBytes, ← h]

theorem decodeCommandBytes_of_lt {c : Byte} {ps : List Byte} (h : ps.length < (paramCount c).val) :
    decodeCommandBytes (c :: ps) = .error .parametersMissing :=
  if_neg (by omega)

/-- Settles O5: the count by the opcode, then the bytes it takes. -/
theorem commandLength : Obligations.CommandLength := fun c _ rest =>
  ⟨paramCount_val c, decodeCommandBytes_append rest, decodeCommandBytes_of_lt⟩

end Sys2Proof

namespace Sys2Proof.Machine

/-- The bits of the status byte that hold a button, now or before (30_encoding R93). -/
theorem statusByte_button_bits (s : State) :
    (statusByte s).getLsbD 7 = s.btn0 ∧ (statusByte s).getLsbD 6 = s.pbtn0 ∧
    (statusByte s).getLsbD 4 = s.btn1 ∧ (statusByte s).getLsbD 0 = s.pbtn1 := by
  simp [statusByte, getLsbD_bitAt, -BitVec.getLsbD_eq_getElem]

/-- Settles O33: the button bits and the latch bits together. -/
theorem statusByteLayout : Obligations.StatusByteLayout := by
  intro s
  obtain ⟨hbtn0, hpbtn0, hbtn1, hpbtn1⟩ := statusByte_button_bits s
  obtain ⟨hmove, hbtn, href, hmoved⟩ := statusByte_latch_bits s
  exact ⟨hbtn0, hpbtn0, hmoved, hbtn1, href, hbtn, hmove, hpbtn1⟩

end Sys2Proof.Machine
end

section
/-!
PROOFS. The PIA registers: what a register access answers and leaves, and the write-then-read law (40_pia_registers).
-/

namespace Sys2Proof.Machine

/-! ### The composite ports (40_pia_registers R121) -/

/-- The direction bit picks the output register's bit or the input latch's (40_pia_registers R121). -/
theorem getLsbD_derivePort (o d i : Byte) {j : Nat} (hj : j < 8) :
    (derivePort o d i).getLsbD j = if d.getLsbD j then o.getLsbD j else i.getLsbD j := by
  simp only [derivePort, BitVec.getLsbD_or, BitVec.getLsbD_and, BitVec.getLsbD_not, hj]
  cases d.getLsbD j <;> simp

/-- Settles O13: the complement of the direction byte is its exclusive or with 0xFF. -/
theorem compositePortBits : Obligations.CompositePortBits := by
  refine ⟨fun o d i => ⟨?_, fun j hj => getLsbD_derivePort o d i hj⟩, fun s => ⟨rfl, rfl⟩, by decide⟩
  have hnot : (0xFF : Byte) ^^^ d = ~~~d := BitVec.allOnes_xor
  rw [hnot, derivePort]

/-! ### The control registers and the ROM page as the rules write them -/

/-- Bits 7:6 of a control register read as zero (30_encoding R83). -/
theorem crByte_eq_append (cr : BitVec 6) : crByte cr = 0#2 ++ cr := by
  revert cr; decide

/-- Masking with 0x3F first does not change the six bits stored (30_encoding R83). -/
theorem crStored_eq_masked (d : Byte) : crStored d = (d &&& 0x3F).setWidth 6 := by
  revert d; decide

/-- A stored control byte reads back as its low six bits (40_pia_registers R131). -/
theorem crByte_crStored (d : Byte) : crByte (crStored d) = d &&& 0x3F := by
  revert d; decide

/-- The page offset after one of ORB and DDRB was replaced (40_pia_registers R126, 41_bus_dispatch R155). -/
theorem romPageOffset_ite (p : Params) (c : Bool) (orb ddrb d : Byte) :
    romPageOffset p (if c then d else orb) (if c then ddrb else d) =
      p.pageSize * (((if c then d &&& ddrb else orb &&& d).toNat >>> p.pageLo) % 2 ^ p.pageBits) := by
  cases c <;> rfl

/-! ### One access -/

/-- Settles O9: the write and the debug latch as one update, then the detector. -/
theorem writeSelect0 : Obligations.WriteSelect0 := by
  intro rom addr d s
  change Host.Outcome.next (endSample addr none (debugLatch addr d (regWrite0 d s))) = _
  rw [regWrite0_eq, debugLatch_eq]
  rfl

/-- Settles O10: the byte stored is the masked byte's low six bits. -/
theorem writeControlRegisters : Obligations.WriteControlRegisters := by
  intro rom addr d s
  rw [← crStored_eq_masked]
  constructor
  · change Host.Outcome.next (endSample addr none (debugLatch addr d (regWrite1 d s))) = _
    rw [debugLatch_eq]
    rfl
  · change Host.Outcome.next (endSample addr none (debugLatch addr d (regWrite3 d s))) = _
    rw [debugLatch_eq]
    rfl

/-- Settles O11: ROMOFF is recomputed from the pair of registers that the write leaves. -/
theorem writeSelect2 : Obligations.WriteSelect2 := by
  intro rom addr d s
  change Host.Outcome.next (endSample addr none (debugLatch addr d (regWrite2 d s))) = _
  rw [regWrite2_eq, debugLatch_eq, romPageOffset_ite]
  rfl

/-- Settles O12: each read answers from the state it finds, then the detector. -/
theorem registerReads : Obligations.RegisterReads := by
  intro rom addr s
  rw [← crByte_eq_append, ← crByte_eq_append]
  exact ⟨rfl, rfl, rfl, rfl⟩

/-! ### A write, then a read of the same select (40_pia_registers R131) -/

theorem regRead0_regWrite0 (d : Byte) (s : State) :
    regRead0 (regWrite0 d s) = if selOr s.cra then derivePort d s.ddra s.ina else d := by
  rw [regWrite0_eq]
  unfold regRead0 portA
  cases selOr s.cra <;> rfl

theorem regRead1_regWrite1 (d : Byte) (s : State) : regRead1 (regWrite1 d s) = d &&& 0x3F :=
  crByte_crStored d

theorem regRead2_regWrite2 (d : Byte) (s : State) :
    regRead2 (regWrite2 d s) = if selOr s.crb then derivePort d s.ddrb s.inb else d := by
  rw [regWrite2_eq]
  unfold regRead2 portB
  cases selOr s.crb <;> rfl

theorem regRead3_regWrite3 (d : Byte) (s : State) : regRead3 (regWrite3 d s) = d &&& 0x3F :=
  crByte_crStored d

/-- No read looks at the debug latch. -/
theorem readByte_debugLatch (i : Instr) (addr : Addr) (d : Byte) (s : State) :
    readByte (debugLatch addr d s) i = readByte s i := by
  rw [debugLatch_eq]
  cases i <;> rfl

/-- The end of a sample that does not complete the reset fingerprint leaves what every read answers. -/
theorem readByte_endSample (i : Instr) {addr : Addr} (answer : Option Byte) {s : State}
    (hn : ¬ (s.rstate = .waitEntry ∧ addr = s.params.resetEntry)) :
    readByte (endSample addr answer s) i = readByte s i := by
  rcases endSample_cases s addr answer with ⟨hr, ha, _⟩ | ⟨_, r, he⟩
  · exact absurd ⟨hr, ha⟩ hn
  · rw [he, readByte_rstate_out]

/-- After a register write that does not complete the reset fingerprint, a read drives what it finds in the registers
just written: neither the debug latch nor the detector stands between (40_pia_registers R131). -/
theorem out_of_read_after_write {i : Instr} {addr : Addr} {v b : Byte} {s w u : State}
    (hn : ¬ (s.rstate = .waitEntry ∧ addr = s.params.resetEntry)) (hw : DispatchFrame s w)
    (hu : exec i (endSample addr none (debugLatch addr v w)) = .next u) (hb : readByte w i = some b) :
    u.out = some b := by
  have hf : DispatchFrame s (debugLatch addr v w) := dispatchFrame_debugLatch addr v hw
  rw [← hf.rstate, ← hf.params] at hn
  have hread : readByte (endSample addr none (debugLatch addr v w)) i = some b := by
    rw [readByte_endSample i none hn, readByte_debugLatch, hb]
  exact out_of_read hread hu

/-- Settles O14: at each select the read finds the register as the write left it. -/
theorem writeThenReadRegister : Obligations.WriteThenReadRegister := by
  intro rom rom' addr addr' v s t u hn
  refine ⟨fun ht hu => ?_, fun ht hu => ?_, fun ht hu => ?_, fun ht hu => ?_⟩ <;> cases ht
  · exact out_of_read_after_write hn (dispatchFrame_regWrite0 v s) hu (congrArg some (regRead0_regWrite0 v s))
  · exact out_of_read_after_write hn (dispatchFrame_regWrite1 v s) hu (congrArg some (regRead1_regWrite1 v s))
  · exact out_of_read_after_write hn (dispatchFrame_regWrite2 v s) hu (congrArg some (regRead2_regWrite2 v s))
  · exact out_of_read_after_write hn (dispatchFrame_regWrite3 v s) hu (congrArg some (regRead3_regWrite3 v s))

end Sys2Proof.Machine
end

section
/-!
PROOFS. The bus dispatch: the ROM window and its debug write, the samples outside both windows, that every sample
completes, and the outside writers of the input latches (41_bus_dispatch).
-/

namespace Sys2Proof.Machine

/-! ### The ROM window (41_bus_dispatch R157, R158) -/

theorem exec_busRRom {addr : Addr} {s : State} (h : romIndex s addr < s.params.romSize) :
    exec (.busRRom addr) s = .next (endSample addr (some (Memory.read s.rom (romIndex s addr))) s) :=
  if_pos h

theorem exec_busWRom_of_disabled {s : State} (addr : Addr) (d : Byte)
    (h : ¬ (s.params.debugPresent = true ∧ s.dbgwe = true)) :
    exec (.busWRom addr d) s = .next (endSample addr none s) :=
  if_neg fun hand => h (Bool.and_eq_true_iff.1 hand)

theorem exec_busWRom_of_enabled {addr : Addr} {s : State} (d : Byte) (hpath : s.params.debugPresent = true)
    (hlatch : s.dbgwe = true) (hindex : romIndex s addr < s.params.romSize) :
    exec (.busWRom addr d) s =
      .next (endSample addr none { s with rom := Memory.write s.rom (romIndex s addr) d }) :=
  (if_pos (Bool.and_eq_true_iff.2 ⟨hpath, hlatch⟩)).trans (if_pos hindex)

/-- Settles O16: ROMOFF is fresh under the invariant, so the index lies in the image. -/
theorem romReadDrivesPagedByte : Obligations.RomReadDrivesPagedByte := fun addr _ h =>
  have hindex := romIndex_lt h addr
  ⟨h.romoff, hindex, exec_busRRom hindex⟩

/-- Settles O17: an enabled write stores one byte into the canonical list, at an index inside the image. -/
theorem romWriteNeedsDebugLatch : Obligations.RomWriteNeedsDebugLatch := fun addr d s =>
  ⟨exec_busWRom_of_disabled addr d, fun h hpath hlatch =>
    ⟨Memory.write s.rom (romIndex s addr) d,
      exec_busWRom_of_enabled d hpath hlatch (romIndex_lt h addr),
      memory_write_wf _ d h.romForm,
      memory_read_write_same _ d h.romForm,
      fun _ hne => memory_read_write_other d hne.symm⟩⟩

/-! ### Every sample completes (41_bus_dispatch R162) -/

/-- The decoder reads a sample as a bus row, with the sample's address (41_bus_dispatch R150). -/
theorem sampleAddr_of_row {b : BusSample} {i : Instr} (h : SampleRow b i) : sampleAddr i = some b.addr := by
  cases h <;> rfl

/-- Only the ROM window can keep a sample from completing, and not with an index inside the image. -/
theorem sample_completes {i : Instr} {addr : Addr} {s : State} (hi : sampleAddr i = some addr)
    (hindex : romIndex s addr < s.params.romSize) : ∃ t, exec i s = .next t := by
  cases i with
  | busWR0 | busRR0 | busWR1 | busRR1 | busWR2 | busRR2 | busWR3 | busRR3 | busUnsel | busSelNowin => exact ⟨_, rfl⟩
  | busRRom a => cases hi; exact ⟨_, exec_busRRom hindex⟩
  | busWRom a d =>
    cases hi
    by_cases henabled : s.params.debugPresent = true ∧ s.dbgwe = true
    · exact ⟨_, exec_busWRom_of_enabled d henabled.1 henabled.2 hindex⟩
    · exact ⟨_, exec_busWRom_of_disabled addr d henabled⟩
  | _ => cases hi

/-- Settles O8: every sample word decodes to a bus row, and under the invariant its ROM index lies in the image. -/
theorem everySampleCompletes : Obligations.EverySampleCompletes := fun _ w data h =>
  sample_completes (sampleAddr_of_row (sampleRow_decodeSample w data)) (romIndex_lt h _)

/-! ### The detector's transitions (70_reset_and_hazards R344) -/

theorem endSample_of_waitLow {s : State} (addr : Addr) (answer : Option Byte) (h : s.rstate = .waitLow) :
    endSample addr answer s =
      { s with out := answer, rstate := if addr = s.params.rvLo then .waitHigh else .waitLow } := by
  simp only [endSample, detectorStep, h]
  split
  · rfl
  · rw [← h]

theorem endSample_of_waitHigh {s : State} (addr : Addr) (answer : Option Byte) (h : s.rstate = .waitHigh) :
    endSample addr answer s =
      { s with out := answer, rstate := if addr = s.params.rvHi then .waitEntry else .waitLow } := by
  simp only [endSample, detectorStep, h]

theorem endSample_of_mismatch {s : State} {addr : Addr} (answer : Option Byte) (h : s.rstate = .waitEntry)
    (ha : addr ≠ s.params.resetEntry) : endSample addr answer s = { s with out := answer, rstate := .waitLow } := by
  simp only [endSample, detectorStep, h, if_neg ha]

theorem endSample_of_entry {s : State} {addr : Addr} (answer : Option Byte) (h : s.rstate = .waitEntry)
    (ha : addr = s.params.resetEntry) :
    endSample addr answer s = { reinit s with out := answer, rstate := .waitLow } := by
  simp only [endSample, detectorStep, h, if_pos ha]
  rfl

/-- The page that two cleared registers select is page 0 (41_bus_dispatch R155). -/
theorem romPageOffset_zero (p : Params) : romPageOffset p 0#8 0#8 = 0 := by
  simp [romPageOffset]

/-- The reinitialised state has every reset value, whatever the detector and the output hold (10_state R52). -/
theorem isReinitialised_of_isReinitOf {u t : State} (h : IsReinitOf u t) : isReinitialised t := by
  obtain ⟨r, o, rfl⟩ := h
  simp [isReinitialised, romPageOffset_zero]

/-- A sample outside both windows is the detector's step and nothing else (41_bus_dispatch R159). -/
theorem exec_of_no_window {i : Instr} {rom dev rw : Bool} {addr : Addr}
    (hi : i ∈ [.busUnsel rom dev rw addr, .busSelNowin rw addr]) (s : State) :
    exec i s = .next (endSample addr none s) := by
  rcases List.mem_pair.1 hi with rfl | rfl <;> rfl

/-- Settles O20: by the detector's state, and in state 2 by the address. -/
theorem detectorTransitions : Obligations.DetectorTransitions := by
  intro i rom dev rw addr s hi
  rw [exec_of_no_window hi]
  refine ⟨fun h => ?_, fun h => ?_, fun h ha => ?_, fun h ha => ?_⟩
  · rw [endSample_of_waitLow addr none h]
  · rw [endSample_of_waitHigh addr none h]
  · rw [endSample_of_mismatch none h ha]
  · rw [endSample_of_entry none h ha]
    exact ⟨_, rfl, isReinitialised_of_isReinitOf ⟨_, _, rfl⟩, rfl, rfl, rfl, rfl, rfl, rfl, rfl, rfl⟩

/-! ### The input latches (41_bus_dispatch R163) -/

/-- Settles O26: by the port. -/
theorem setInputWritesLatch : Obligations.SetInputWritesLatch := by
  intro port v s
  cases port with
  | A => rfl
  | B => rfl

end Sys2Proof.Machine
end

section
/-!
PROOFS. The protocol machine: samples do not look at it, and what a poll does with its two handshake edges and with the
byte it takes (42_protocol R180 to R194).
-/

namespace Sys2Proof.Machine

open Host (Outcome)

/-! ### Samples look at no ProtocolState element (42_protocol R194) -/

/-- State `s` with the ProtocolState of `p`, element by element (10_state R31 to R36). -/
def withProtocol (p s : State) : State :=
  { s with cmd := p.cmd, pcnt := p.pcnt, pbuf := p.pbuf, rbuf := p.rbuf, rcnt := p.rcnt, pbsnap := p.pbsnap }

theorem regWrite0_withProtocol (d : Byte) (p s : State) :
    regWrite0 d (withProtocol p s) = withProtocol p (regWrite0 d s) := by
  rw [regWrite0_eq, regWrite0_eq]; rfl

theorem regWrite2_withProtocol (d : Byte) (p s : State) :
    regWrite2 d (withProtocol p s) = withProtocol p (regWrite2 d s) := by
  rw [regWrite2_eq, regWrite2_eq]; rfl

theorem debugLatch_withProtocol (addr : Addr) (d : Byte) (p s : State) :
    debugLatch addr d (withProtocol p s) = withProtocol p (debugLatch addr d s) := by
  rw [debugLatch_eq, debugLatch_eq]; rfl

/-- The dispatch of a sample computes the same answer and the same change of state under another ProtocolState. -/
theorem dispatch_withProtocol {i : Instr} {addr : Addr} {s t : State} (p : State) (hi : sampleAddr i = some addr)
    (h : exec i s = .next t) :
    ∃ (u : State) (answer : Option Byte), t = endSample addr answer u ∧
      exec i (withProtocol p s) = .next (endSample addr answer (withProtocol p u)) := by
  cases i with
  | busWR0 rom a d =>
    cases hi; cases h
    exact ⟨_, none, rfl, by rw [← debugLatch_withProtocol, ← regWrite0_withProtocol]; rfl⟩
  | busWR1 rom a d =>
    cases hi; cases h
    exact ⟨_, none, rfl, by rw [← debugLatch_withProtocol]; rfl⟩
  | busWR2 rom a d =>
    cases hi; cases h
    exact ⟨_, none, rfl, by rw [← debugLatch_withProtocol, ← regWrite2_withProtocol]; rfl⟩
  | busWR3 rom a d =>
    cases hi; cases h
    exact ⟨_, none, rfl, by rw [← debugLatch_withProtocol]; rfl⟩
  | busRR0 | busRR1 | busRR2 | busRR3 | busUnsel | busSelNowin =>
    cases hi; cases h
    exact ⟨s, _, rfl, rfl⟩
  | busRRom a =>
    cases hi
    change execBusRRom addr s = _ at h
    unfold execBusRRom at h
    split_ifs at h with hindex
    cases h
    exact ⟨s, _, rfl, exec_busRRom (s := withProtocol p s) hindex⟩
  | busWRom a d =>
    cases hi
    change execBusWRom addr d s = _ at h
    unfold execBusWRom at h
    split_ifs at h with henabled hindex <;> cases h
    · obtain ⟨hpath, hlatch⟩ := Bool.and_eq_true_iff.1 henabled
      exact ⟨_, none, rfl, exec_busWRom_of_enabled (s := withProtocol p s) d hpath hlatch hindex⟩
    · have hdisabled := mt Bool.and_eq_true_iff.2 henabled
      exact ⟨s, none, rfl, exec_busWRom_of_disabled (s := withProtocol p s) addr d hdisabled⟩
  | _ => cases hi

/-- The detector looks at no ProtocolState element: it reinitialises both states to the same one, or leaves their
difference as it was (70_reset R344). -/
theorem endSample_withProtocol (addr : Addr) (answer : Option Byte) (p s : State) :
    ∃ q, endSample addr answer (withProtocol p s) = withProtocol q (endSample addr answer s) := by
  cases hr : s.rstate with
  | waitLow =>
    rw [endSample_of_waitLow addr answer hr, endSample_of_waitLow (s := withProtocol p s) addr answer hr]
    exact ⟨p, rfl⟩
  | waitHigh =>
    rw [endSample_of_waitHigh addr answer hr, endSample_of_waitHigh (s := withProtocol p s) addr answer hr]
    exact ⟨p, rfl⟩
  | waitEntry =>
    by_cases ha : addr = s.params.resetEntry
    · rw [endSample_of_entry answer hr ha, endSample_of_entry (s := withProtocol p s) answer hr ha]
      exact ⟨reinit s, rfl⟩
    · rw [endSample_of_mismatch answer hr ha, endSample_of_mismatch (s := withProtocol p s) answer hr ha]
      exact ⟨p, rfl⟩

/-- Two states that differ only in their ProtocolState are sampled to two such states (42_protocol R194). -/
theorem sample_withProtocol {i : Instr} {addr : Addr} {s t : State} (p : State) (hi : sampleAddr i = some addr)
    (h : exec i s = .next t) : ∃ q, exec i (withProtocol p s) = .next (withProtocol q t) := by
  obtain ⟨u, answer, rfl, hrun⟩ := dispatch_withProtocol p hi h
  obtain ⟨q, hq⟩ := endSample_withProtocol addr answer p u
  exact ⟨q, hrun.trans (congrArg Outcome.next hq)⟩

/-- Settles O28: the second run ends in the first run's state with another ProtocolState. -/
theorem samplerNeverReadsProtocolState : Obligations.SamplerNeverReadsProtocolState := by
  intro i addr s p t t' hi h h'
  obtain ⟨q, hq⟩ := sample_withProtocol p hi h
  cases hq.symm.trans h'
  simp [withProtocol, sameRegisters, sameMouse]

/-! ### The handshake edges (42_protocol R180, R181) -/

/-- An edge bit of a poll: 1 on port B now and 0 in the snapshot (42_protocol R181). -/
theorem getLsbD_risen (s : State) {j : Nat} (hj : j < 8) :
    (risen s).getLsbD j = ((portB s).getLsbD j && !s.pbsnap.getLsbD j) := by
  simp only [risen, BitVec.getLsbD_and, BitVec.getLsbD_not, hj, decide_true, Bool.true_and]

/-- The feedback reads the parameters, INB and the count only, which the snapshot does not write. -/
theorem driveFeedback_snapshot (s : State) :
    driveFeedback { quiet s with pbsnap := portB s } =
      { s with
        pbsnap := portB s
        out := none
        inb := (driveFeedback s).inb
        drawn := (driveFeedback s).drawn } := by
  cases hf : s.params.hsFeedback.isEmpty <;> simp only [driveFeedback, quiet_params, hf] <;> rfl

/-- Without an acknowledge edge a poll's first part is the snapshot and the feedback alone (42_protocol R180). -/
theorem afterAcknowledge_of_no_edge {s : State} (h : (risen s).getLsbD s.params.rackBit = false) :
    afterAcknowledge s = driveFeedback { quiet s with pbsnap := portB s } := by
  rw [driveFeedback_snapshot]
  simp [afterAcknowledge, h]

/-- An acknowledge edge is `readAck` on the snapshot (42_protocol R182). -/
theorem afterAcknowledge_of_edge {s : State} (h : (risen s).getLsbD s.params.rackBit = true) :
    afterAcknowledge s = readAck (driveFeedback { quiet s with pbsnap := portB s }) := by
  rw [driveFeedback_snapshot]
  rcases readAck_cases _ with ⟨hnone, he⟩ | ⟨n, hpending, he⟩ <;> rw [he]
  · have hr : s.rcnt = 0 := hnone
    simp [afterAcknowledge, hr]
  · have hr : s.rcnt = n + 1 := hpending
    simp [afterAcknowledge, h, hr]

/-- The handshake of a poll: the state after the acknowledge, and on a write-request edge port A's byte, as it stood
before, delivered to it (42_protocol R180). -/
theorem pollHandshake_quiet (s : State) :
    pollHandshake (quiet s) =
      if (risen s).getLsbD s.params.wreqBit then acceptByte (portA s) (afterAcknowledge s)
      else (afterAcknowledge s, none) := by
  have hacked : (if (risen s).getLsbD s.params.rackBit then
        readAck (driveFeedback { quiet s with pbsnap := portB s })
      else driveFeedback { quiet s with pbsnap := portB s }) = afterAcknowledge s := by
    split
    next h => exact (afterAcknowledge_of_edge h).symm
    next h => exact (afterAcknowledge_of_no_edge (by simpa using h)).symm
  rw [← hacked]
  rfl

theorem protoPoll_of_no_edge {s : State} (h : (risen s).getLsbD s.params.wreqBit = false) :
    exec .protoPoll s = .next (afterAcknowledge s) := by
  change finishPoll (pollHandshake (quiet s)) = _
  rw [pollHandshake_quiet, h]
  rfl

/-- Settles O29: snapshot, acknowledge and feedback are all that a poll without a write-request edge does. -/
theorem pollAcknowledges : Obligations.PollAcknowledges := by
  intro s
  refine ⟨fun j hj => getLsbD_risen s hj, fun j hj hfree => ?_, protoPoll_of_no_edge⟩
  change (driveFeedback s).inb.getLsbD j = _
  rw [driveFeedback_inb_getLsbD s j hj, if_neg hfree]

/-! ### The byte delivered (42_protocol R185, R186) -/

theorem acceptByte_of_idle {s : State} (b : Byte) (h : s.pcnt = 0) :
    acceptByte b s =
      ({ s with cmd := b, pcnt := paramCount b }, if paramCount b = 0 then some b else none) := by
  simp [acceptByte, h]

theorem acceptByte_of_waiting {s : State} (b : Byte) {n : Nat} (hn : n < 4) (h : s.pcnt.val = n + 1) :
    acceptByte b s =
      ({ s with pbuf := s.pbuf.set n b, pcnt := ⟨n, by omega⟩ }, if n = 0 then some s.cmd else none) := by
  simp [acceptByte, h]

/-- A write-request edge delivers port A's byte after the acknowledge, and the command it completes runs at once
(42_protocol R180, R186). -/
theorem protoPoll_of_edge {s : State} (h : (risen s).getLsbD s.params.wreqBit = true) :
    exec .protoPoll s = finishPoll (acceptByte (portA s) (afterAcknowledge s)) := by
  change finishPoll (pollHandshake (quiet s)) = _
  rw [pollHandshake_quiet, if_pos h]

theorem finishPoll_some (t : State) (c : Byte) : finishPoll (t, some c) = exec (decodeCommand c) t :=
  execute_eq_exec c t

/-- A poll that brings an idle sequencer a command byte without parameters runs that command (42_protocol R186). -/
theorem protoPoll_of_whole_command {s : State} (h : (risen s).getLsbD s.params.wreqBit = true) (hidle : s.pcnt = 0)
    (hwhole : paramCount (portA s) = 0) :
    exec .protoPoll s = exec (decodeCommand (portA s)) { afterAcknowledge s with cmd := portA s, pcnt := 0 } := by
  rw [protoPoll_of_edge h, acceptByte_of_idle (s := afterAcknowledge s) _ hidle, if_pos hwhole, finishPoll_some, hwhole]

/-- A poll that brings the last parameter runs the command that waits for it (42_protocol R186). -/
theorem protoPoll_of_last_parameter {s : State} (h : (risen s).getLsbD s.params.wreqBit = true) (hlast : s.pcnt = 1) :
    exec .protoPoll s =
      exec (decodeCommand s.cmd) { afterAcknowledge s with pbuf := s.pbuf.set 0 (portA s), pcnt := 0 } := by
  have hpcnt : (afterAcknowledge s).pcnt.val = 0 + 1 := congrArg Fin.val hlast
  rw [protoPoll_of_edge h, acceptByte_of_waiting _ (by omega) hpcnt, if_pos rfl, finishPoll_some]
  rfl

/-- Settles O30: a byte that completes nothing is stored, and the poll ends. -/
theorem pollCollectsBytes : Obligations.PollCollectsBytes := by
  refine fun s => ⟨fun j hj => getLsbD_risen s hj, fun hedge =>
    ⟨fun hidle hmore => ?_, fun n hn hwaiting => ?_⟩⟩
  · rw [protoPoll_of_edge hedge, acceptByte_of_idle (s := afterAcknowledge s) _ hidle, if_neg hmore]
    rfl
  · have hpcnt : (afterAcknowledge s).pcnt.val = n + 1 + 1 := hwaiting
    rw [protoPoll_of_edge hedge, acceptByte_of_waiting _ (by omega) hpcnt, if_neg n.succ_ne_zero]
    rfl

/-- A poll completes a command with a command byte without parameters, or with a last parameter (42_protocol R185). -/
theorem completedCommand_cases {s : State} {c : Byte} (h : completedCommand s = some c) :
    (risen s).getLsbD s.params.wreqBit = true ∧
      ((s.pcnt = 0 ∧ paramCount (portA s) = 0 ∧ portA s = c) ∨ (s.pcnt = 1 ∧ s.cmd = c)) := by
  unfold completedCommand at h
  split_ifs at h with hedge hidle hwhole hlast <;> cases h
  · exact ⟨hedge, .inl ⟨Fin.ext hidle, Fin.ext hwhole, rfl⟩⟩
  · exact ⟨hedge, .inr ⟨Fin.ext hlast, rfl⟩⟩

/-- Settles O31: the two ways to complete a command, and that every command completes and keeps CMD and PCNT. -/
theorem pollRunsCompletedCommand : Obligations.PollRunsCompletedCommand := by
  refine fun s => ⟨fun j hj => getLsbD_risen s hj, fun hedge =>
    ⟨protoPoll_of_whole_command hedge, protoPoll_of_last_parameter hedge, fun c hc => ?_⟩⟩
  obtain ⟨_, ⟨hidle, hwhole, rfl⟩ | ⟨hlast, rfl⟩⟩ := completedCommand_cases hc
  · rw [protoPoll_of_whole_command hedge hidle hwhole]
    obtain ⟨t, ht, hframe⟩ := command_completes (portA s) { afterAcknowledge s with cmd := portA s, pcnt := 0 }
    exact ⟨t, ht, hframe.pcnt, hframe.cmd⟩
  · rw [protoPoll_of_last_parameter hedge hlast]
    obtain ⟨t, ht, hframe⟩ :=
      command_completes s.cmd { afterAcknowledge s with pbuf := s.pbuf.set 0 (portA s), pcnt := 0 }
    exact ⟨t, ht, hframe.pcnt, hframe.cmd⟩

/-! ### The poll after a poll (42_protocol R181, R193) -/

/-- What the poll that led to a state leaves for the next one: no output, and a snapshot of port B that differs from it
at most in the feedback bits (42_protocol R180, R192). -/
structure JustPolled (t : State) : Prop where
  out : t.out = none
  snapshot : ∀ j, j ∉ t.params.hsFeedback → (portB t).getLsbD j = t.pbsnap.getLsbD j

theorem pollHandshake_out (s : State) : (pollHandshake (quiet s)).1.out = none := by
  rw [pollHandshake_quiet]
  split
  · rcases acceptByte_cases (afterAcknowledge s) (portA s) with ⟨_, he⟩ | ⟨n, _, _, he⟩ <;> rw [he] <;> rfl
  · rfl

/-- Only INB in the feedback bits moves port B in a poll (42_protocol R192). -/
theorem getLsbD_portB_of_poll {s t : State} (h : exec .protoPoll s = .next t) {j : Nat}
    (hfree : j ∉ s.params.hsFeedback) : (portB t).getLsbD j = (portB s).getLsbD j := by
  rcases Nat.lt_or_ge j 8 with hj | hj
  · obtain ⟨⟨_, _, _, hddrb, horb, _⟩, hinb⟩ := protoPoll_registers h
    rw [portB, portB, hddrb, horb, hinb, getLsbD_derivePort _ _ _ hj, getLsbD_derivePort _ _ _ hj,
      driveFeedback_inb_getLsbD s j hj, if_neg hfree]
  · rw [BitVec.getLsbD_of_ge _ _ hj, BitVec.getLsbD_of_ge _ _ hj]

theorem protoPoll_snapshot_out {s t : State} (h : exec .protoPoll s = .next t) :
    t.pbsnap = portB s ∧ t.out = none := by
  have hsnap : (pollHandshake (quiet s)).1.pbsnap = portB s := pollHandshake_pbsnap (quiet s)
  rcases protoPoll_cases h with ⟨_, rfl⟩ | ⟨c, _, hc⟩
  · exact ⟨hsnap, pollHandshake_out s⟩
  · have hframe := commandFrame_of_next hc
    exact ⟨hframe.pbsnap.trans hsnap, hframe.out.trans (pollHandshake_out s)⟩

theorem justPolled_of_protoPoll {s t : State} (h : exec .protoPoll s = .next t) : JustPolled t := by
  obtain ⟨hsnap, hout⟩ := protoPoll_snapshot_out h
  refine ⟨hout, fun j hfree => ?_⟩
  rw [exec_params h] at hfree
  rw [getLsbD_portB_of_poll h hfree, hsnap]

theorem JustPolled.no_edge {t : State} (ht : JustPolled t) {j : Nat} (hfree : j ∉ t.params.hsFeedback) :
    (risen t).getLsbD j = false := by
  rcases Nat.lt_or_ge j 8 with hj | hj
  · rw [getLsbD_risen t hj, ht.snapshot j hfree, Bool.and_not_self]
  · exact BitVec.getLsbD_of_ge _ _ hj

/-- A second poll sees neither handshake edge, so only its snapshot and the feedback are left (42_protocol R193). -/
theorem JustPolled.exec_protoPoll {t : State} (ht : JustPolled t) (hwreq : t.params.wreqBit ∉ t.params.hsFeedback)
    (hrack : t.params.rackBit ∉ t.params.hsFeedback) :
    exec .protoPoll t =
      .next { t with pbsnap := portB t, inb := (driveFeedback t).inb, drawn := (driveFeedback t).drawn } := by
  rw [protoPoll_of_no_edge (ht.no_edge hwreq), afterAcknowledge_of_no_edge (ht.no_edge hrack), driveFeedback_snapshot,
    ← ht.out]

/-- Without feedback bits the snapshot is port B as it still stands. -/
theorem JustPolled.portB_eq {t : State} (ht : JustPolled t) (hnil : t.params.hsFeedback = []) : portB t = t.pbsnap :=
  BitVec.eq_of_getLsbD_eq fun j _ => ht.snapshot j (by simp [hnil])

/-- Settles O32: after a poll the snapshot is port B but for the feedback bits, so the next poll sees no edge. -/
theorem heldLevelGivesOneEdge : Obligations.HeldLevelGivesOneEdge := by
  refine fun s t => ⟨fun j hj => getLsbD_risen s hj, fun h => ?_⟩
  have ht := justPolled_of_protoPoll h
  rw [← exec_params h]
  refine ⟨fun j _ hfree => ht.no_edge hfree, fun hnil => ?_, fun hwreq hrack =>
    ⟨_, _, ht.exec_protoPoll hwreq hrack, fun j hj hfree => ⟨?_, ht.snapshot j hfree⟩⟩⟩
  · rw [ht.exec_protoPoll (by simp [hnil]) (by simp [hnil]), driveFeedback_of_nil t hnil, ht.portB_eq hnil]
  · rw [driveFeedback_inb_getLsbD t j hj, if_neg hfree]

end Sys2Proof.Machine
end

section
/-!
PROOFS. The commands: the exact next state of each, and what the poll that delivers one without effect leaves
(43_commands R220 to R235).
-/

namespace Sys2Proof.Machine

open Host (Outcome)

/-! ### Operations the commands share -/

/-- A staged reply as one update: its last byte is the one exposed (42_protocol R183, R187). -/
theorem stageReply_eq {r : List Byte} (s : State) (hr : r ≠ []) :
    stageReply r s =
      { s with rbuf := r ++ s.rbuf.drop r.length, rcnt := r.length, ina := r.getLast hr } := by
  have hlen : 0 < r.length := List.length_pos_of_ne_nil hr
  have hlast : (r ++ s.rbuf.drop r.length).getD (r.length - 1) 0 = r.getLast hr := by
    rw [List.getD_append _ _ _ _ (by omega), List.getD_eq_getElem _ _ (by omega), List.getLast_eq_getElem]
  simp only [stageReply, expose, exposedByte, if_neg hlen.ne', hlast]

/-- Shifting out the low byte is dividing by 256. -/
theorem hiByte_eq (c : Nat) : hiByte c = BitVec.ofNat 8 (c / 256) := by
  rw [hiByte, Nat.shiftRight_eq_div_pow]

/-- The bounds that set clamp stores, one at a time (43_commands R226). -/
theorem clampBounds_eq (a b : Nat) :
    clampBounds a b = (if a > b then 0 else a, if a > b then (a + b) / 2 else b) := by
  unfold clampBounds; split <;> rfl

/-- Set clamp's bounds are no larger than a 16-bit operand, so they are stored exactly (30_encoding R90). -/
theorem clampBounds_fit {s : State} (hw : 16 ≤ s.params.coordW) :
    (clampBounds (clampBoundA s) (clampBoundB s)).1 < 2 ^ s.params.coordW ∧
      (clampBounds (clampBoundA s) (clampBoundB s)).2 < 2 ^ s.params.coordW := by
  obtain ⟨hle, hmax⟩ := clampBounds_ordered (clampBoundA s) (clampBoundB s)
  have ha : clampBoundA s < 2 ^ 16 := word16_lt ..
  have hb : clampBoundB s < 2 ^ 16 := word16_lt ..
  have hpow : 2 ^ 16 ≤ 2 ^ s.params.coordW := Nat.pow_le_pow_right (by decide) hw
  omega

/-- Reclamping into a rectangle whose maxima fit is the clamp of numbers, on both axes (43_commands R226). -/
theorem reclamp_eq {s : State} (hx : s.maxx < 2 ^ s.params.coordW) (hy : s.maxy < 2 ^ s.params.coordW) :
    reclamp s = { s with x := min (max s.x s.minx) s.maxx, y := min (max s.y s.miny) s.maxy } := by
  rw [reclamp, clampCoord_eq _ hx, clampCoord_eq _ hy]

/-! ### Position and rectangle (R223 to R227) -/

/-- Settles O38: bounds that fit make the stored clamp the clamp of numbers. -/
theorem setPosClampsOperands : Obligations.SetPosClampsOperands := by
  rintro sub s ⟨_, _, _, _, _, hxmax, _, hymax⟩
  change execSetPos sub s = _
  rw [execSetPos, clampCoord_eq _ hxmax, clampCoord_eq _ hymax]
  rfl

/-- Settles O40: the new bounds are stored exactly, so on either axis reclamping is the clamp of numbers. -/
theorem setClampSetsAxis : Obligations.SetClampSetsAxis := by
  rintro sub axisY s ⟨_, _, _, _, _, hxmax, _, hymax⟩ hw
  obtain ⟨hlo, hhi⟩ := clampBounds_fit hw
  change execSetClamp sub axisY s = _
  rw [execSetClamp, toCoord_of_fits hlo, toCoord_of_fits hhi]
  rw [clampBounds_eq] at hhi ⊢
  cases axisY with
  | false => exact congrArg Outcome.next (reclamp_eq (s := { s with minx := _, maxx := _ }) hhi hymax)
  | true => exact congrArg Outcome.next (reclamp_eq (s := { s with miny := _, maxy := _ }) hxmax hhi)

/-- Settles O37: both commands store the position they name. -/
theorem clearAndHomePosition : Obligations.ClearAndHomePosition := fun _ _ => ⟨rfl, rfl⟩

/-- Settles O39: the default maximum is the source's 1023, and home is then the origin. -/
theorem initRestoresRectangle : Obligations.InitRestoresRectangle := by
  rintro sub s ⟨hmax, _, _⟩
  rw [← hmax]
  rfl

/-! ### Mode and timing (R220, R229) -/

/-- While refresh interrupts are disabled a refresh poll unarms the deadline (44_mouse_engine R276). -/
theorem rdeadline_of_refresh_disabled {now : Nat} {s u : State} (h : exec (.refreshPoll now) s = .next u)
    (hoff : refIE s = false) : u.rdeadline = none := by
  obtain ⟨_, rfl⟩ := refreshPoll_inversion h
  have htimer : refreshTimer now { quiet s with lastNow := now } =
      { quiet s with lastNow := now, rdeadline := none } := if_pos (by rw [Bool.not_eq_true']; exact hoff)
  rw [irqEdge_eq, htimer]

/-- Settles O34: each enable is bit 0 and its own bit of the nibble stored. -/
theorem setModeStoresNibble : Obligations.SetModeStoresNibble := by
  refine fun m s => ⟨_, rfl, rfl, fun hoff => ?_, fun hon => ?_, fun now u hoff h => ?_⟩
  · simp only [moveIE, btnIE, refIE, hoff, Bool.false_and, and_self]
  · simp only [moveIE, btnIE, refIE, hon, Bool.true_and, and_self]
  · exact rdeadline_of_refresh_disabled h hoff

/-- Settles O41: the two intervals have the source's values. -/
theorem setTimingStoresInterval : Obligations.SetTimingStoresInterval := by
  rintro count ignored hz50 s ⟨_, h50, h60⟩
  rw [← h50, ← h60]
  rfl

/-! ### Replies (R221, R222) -/

/-- Settles O35: five bytes are staged from the state before, the last of them X low. -/
theorem readStatusStagesReply : Obligations.ReadStatusStagesReply := by
  intro sub s
  change execReadStatus sub s = _
  rw [execReadStatus, statusReply, stageReply_eq s (List.cons_ne_nil _ _), hiByte_eq, hiByte_eq]
  rfl

/-- Settles O36: one byte is staged, then the causes and IRQ are cleared. -/
theorem serveClearsCauses : Obligations.ServeClearsCauses := by
  intro sub s
  change execServe sub s = _
  rw [execServe, stageReply_eq s (List.cons_ne_nil _ _)]
  rfl

/-! ### Commands without effect, and the polls that deliver them (R228, R230 to R235) -/

/-- The six commands that the card does not implement (43_commands R228, R231 to R235). -/
def unimplemented (sub : BitVec 4) : List Instr := [.nop8 sub, .nopB sub, .nopC sub, .nopD sub, .nopE sub, .nopF sub]

theorem exec_of_unimplemented {sub : BitVec 4} {i : Instr} (hi : i ∈ unimplemented sub) (s : State) :
    exec i s = .next s := by
  simp only [unimplemented, List.mem_cons, List.not_mem_nil, or_false] at hi
  rcases hi with rfl | rfl | rfl | rfl | rfl | rfl <;> rfl

/-- None of the six takes a parameter byte (30_encoding R87). -/
theorem paramCount_of_unimplemented {sub : BitVec 4} {i : Instr} {c : Byte} (hi : i ∈ unimplemented sub)
    (hc : encode i = .command c) : paramCount c = 0 := by
  simp only [unimplemented, List.mem_cons, List.not_mem_nil, or_false] at hi
  apply Fin.ext
  rw [paramCount_val]
  rcases hi with rfl | rfl | rfl | rfl | rfl | rfl <;> cases hc <;> rw [opcode_commandByte] <;> rfl

/-- A poll that brings an idle sequencer a whole command without effect leaves that command byte in CMD, and nothing
else beside its own effect (42_protocol R185, R186). -/
theorem protoPoll_of_whole_noop {s : State} {i : Instr} (hedge : (risen s).getLsbD s.params.wreqBit = true)
    (hidle : s.pcnt = 0) (hwhole : paramCount (portA s) = 0) (hcommand : encode i = .command (portA s))
    (hnoop : ∀ t, exec i t = .next t) : exec .protoPoll s = .next { afterAcknowledge s with cmd := portA s } := by
  rw [protoPoll_of_whole_command hedge hidle hwhole, decodeCommand_of_encode hcommand, hnoop, ← hidle]
  rfl

/-- Settles O42: the six bytes are the encodings of the six commands, none of which takes a parameter. -/
theorem unimplementedCommandsChangeOnlyCmd : Obligations.UnimplementedCommandsChangeOnlyCmd := by
  refine fun sub s => ⟨fun i hi => exec_of_unimplemented hi s, ?_⟩
  rintro c hc hedge hidle rfl
  obtain ⟨i, hi, hcommand⟩ : ∃ i ∈ unimplemented sub, encode i = .command (portA s) :=
    List.mem_map.1 (List.mem_map_of_mem (f := Encoded.command) hc)
  exact protoPoll_of_whole_noop hedge hidle (paramCount_of_unimplemented hi hcommand) hcommand
    (exec_of_unimplemented hi)

/-- Settles O43: the parameter is stored as the last one awaited, and VENDOR then runs without effect. -/
theorem vendorConsumesParameter : Obligations.VendorConsumesParameter := by
  refine fun sub s => ⟨rfl, fun hedge hlast hcmd => ?_⟩
  have hvendor : decodeCommand s.cmd = .vendor sub := decodeCommand_of_encode (hcmd ▸ rfl)
  rw [protoPoll_of_last_parameter hedge hlast, hvendor]
  rfl

end Sys2Proof.Machine
end

section
/-!
PROOFS. The mouse engine: the saturating sum, the exact next state of each report, the refresh deadline and the
interrupt line's edge (44_mouse_engine R270 to R282).
-/

namespace Sys2Proof.Machine

/-! ### The saturating sum (R271) -/

theorem satAdd_of_pos {d : Int} (h : 0 < d) (v lo hi : Int) : satAdd v d lo hi = min (v + d) (max hi v) :=
  if_pos h

theorem satAdd_of_neg {d : Int} (h : d < 0) (v lo hi : Int) : satAdd v d lo hi = max (v + d) (min lo v) := by
  rw [satAdd, if_neg (not_lt.2 h.le), if_pos h]

theorem satAdd_zero (v lo hi : Int) : satAdd v 0 lo hi = v := rfl

/-- A start that is not above the maximum stays so, and goes no further below the minimum than it was. -/
theorem satAdd_bounds {v lo hi : Int} (d : Int) (hle : lo ≤ hi) (hv : v ≤ hi) :
    min lo v ≤ satAdd v d lo hi ∧ satAdd v d lo hi ≤ hi := by
  rcases lt_trichotomy d 0 with hd | rfl | hd
  · rw [satAdd_of_neg hd]; omega
  · rw [satAdd_zero]; omega
  · rw [satAdd_of_pos hd]; omega

/-- From inside the bounds the saturating sum is the clamp of the exact sum (R270, R271). -/
theorem satAdd_eq_clamp {v lo hi : Int} (d : Int) (hlo : lo ≤ v) (hhi : v ≤ hi) :
    satAdd v d lo hi = clamp (v + d) lo hi := by
  rw [clamp]
  rcases lt_trichotomy d 0 with hd | rfl | hd
  · rw [satAdd_of_neg hd]; omega
  · rw [satAdd_zero]; omega
  · rw [satAdd_of_pos hd]; omega

/-- At the maximum there is no way up (R282). -/
theorem satAdd_of_eq_max {v d lo hi : Int} (hd : 0 < d) (hv : v = hi) : satAdd v d lo hi = v := by
  rw [satAdd_of_pos hd]; omega

/-- The saturating sum stays in a range that holds the start and the bounds. -/
theorem satAdd_mem_range {v lo hi m : Int} (d : Int) (hv : 0 ≤ v ∧ v ≤ m) (hlo : 0 ≤ lo) (hhi : hi ≤ m) :
    0 ≤ satAdd v d lo hi ∧ satAdd v d lo hi ≤ m := by
  rcases lt_trichotomy d 0 with hd | rfl | hd
  · rw [satAdd_of_neg hd]; omega
  · rw [satAdd_zero]; omega
  · rw [satAdd_of_pos hd]; omega

/-- Settles O44: the branch equations, and what follows from each. -/
theorem saturatingAddLaws : Obligations.SaturatingAddLaws := by
  refine fun v d lo hi => ⟨fun hd => ⟨satAdd_of_pos hd v lo hi, ?_⟩, fun hd => ⟨satAdd_of_neg hd v lo hi, ?_⟩,
    fun hd => hd ▸ satAdd_zero v lo hi, satAdd_eq_clamp d,
    fun m hv hvm hlo _ hhi => satAdd_mem_range d ⟨hv, hvm⟩ hlo hhi⟩
  · rw [satAdd_of_pos hd]; omega
  · rw [satAdd_of_neg hd]; omega

/-! ### The interrupt line's edge (R277) -/

/-- A report that adds `raised` to the causes asserts the line where it raised one and none was latched before. -/
theorem irqEdge_of_raised {s u : State} {raised : Bool} (h : anyCause u = (anyCause s || raised)) :
    irqEdge (anyCause s) u =
      { u with irq := u.irq || (raised && !s.causeMove && !s.causeBtn && !s.causeRef) } := by
  have hedge : (!anyCause s && anyCause u) = (raised && !s.causeMove && !s.causeBtn && !s.causeRef) := by
    rw [h]
    cases raised with
    | false => rw [Bool.or_false, Bool.not_and_self]; rfl
    | true => simp [anyCause]
  rw [irqEdge_eq, hedge]

/-- A report that leaves the causes leaves the line. -/
theorem irqEdge_of_kept {s u : State} (h : anyCause u = anyCause s) : irqEdge (anyCause s) u = u := by
  rw [irqEdge_of_raised (raised := false) (by rw [h, Bool.or_false])]
  simp

/-- A report ends with the edge of the line, which nothing in it wrote before (R277). -/
theorem report_irqEdge {i : Instr} {s t : State} (h : exec i s = .next t) (hi : IsReport i) :
    ∃ u, u.irq = s.irq ∧ t = irqEdge (anyCause s) u := by
  rcases hi with ⟨dx, dy, rfl⟩ | ⟨k, p, rfl⟩ | ⟨now, rfl⟩
  · exact ⟨_, by rw [latchMove_eq]; rfl, (move_inversion h).2⟩
  · exact ⟨_, by rw [buttonReport, setButton_eq]; rfl, (button_inversion h).2⟩
  · refine ⟨_, ?_, (refreshPoll_inversion h).2⟩
    rcases refreshTimer_cases now { quiet s with lastNow := now } with
      ⟨_, he⟩ | ⟨_, _, he⟩ | ⟨d, _, _, _, he⟩ | ⟨d, _, _, _, he⟩ <;> rw [he] <;> rfl

/-- The line after a report: up as before, or since a cause is latched now and none was before (R277). -/
theorem irq_of_report {i : Instr} {s t : State} (h : exec i s = .next t) (hi : IsReport i) :
    t.irq = (s.irq || (!anyCause s && anyCause t)) := by
  obtain ⟨u, hu, rfl⟩ := report_irqEdge h hi
  rw [irqEdge_eq, ← hu]
  rfl

/-- Settles O50: the three instructions are the three reports. -/
theorem interruptAssertRule : Obligations.InterruptAssertRule := by
  intro i dx dy k p now s t hi h
  refine irq_of_report h ?_
  simp only [List.mem_cons, List.not_mem_nil, or_false] at hi
  rcases hi with rfl | rfl | rfl
  · exact .inl ⟨dx, dy, rfl⟩
  · exact .inr (.inl ⟨k, p, rfl⟩)
  · exact .inr (.inr ⟨now, rfl⟩)

/-! ### Movement (R273, R274) -/

theorem exec_move {dx dy : Int} (hx : signedByte dx) (hy : signedByte dy) (s : State) :
    exec (.move dx dy) s = .next (irqEdge (anyCause s) (latchMove s (movedTo dx dy (quiet s)))) :=
  if_pos ⟨hx, hy⟩

/-- A moved coordinate is stored as the saturated sum, which is no negative number (R271, 00_scope R7). -/
theorem moveCoord_eq_toNat (p : Params) {v : Nat} (d : Int) {lo hi : Nat} (hv : v < 2 ^ p.coordW)
    (hf : hi < 2 ^ p.coordW) : moveCoord p v d lo hi = (satAdd v d lo hi).toNat := by
  rw [← moveCoord_eq p d hv hf, Int.toNat_natCast]

/-- The position a movement report stores while the coordinates fit (R273). -/
theorem movedTo_eq (dx dy : Int) {s : State} (h : coordsFit s) :
    movedTo dx dy s =
      { s with
        x := (satAdd s.x dx s.minx s.maxx).toNat
        y := (satAdd s.y dy s.miny s.maxy).toNat } := by
  obtain ⟨hx, hy, _, _, _, hxmax, _, hymax⟩ := h
  rw [movedTo, moveCoord_eq_toNat _ dx hx hxmax, moveCoord_eq_toNat _ dy hy hymax]

/-- Settles O45: the stored position, the latches of a change, and the edge for the cause they add. -/
theorem moveReport : Obligations.MoveReport := by
  intro dx dy s hdx hdy hfit nx ny changed cause
  have hlatched : latchMove s (movedTo dx dy (quiet s)) =
      { s with
        x := nx, y := ny, out := none
        moved := s.moved || changed, causeMove := s.causeMove || cause } := by
    rw [movedTo_eq dx dy (s := quiet s) hfit, latchMove_eq]
    rfl
  rw [exec_move hdx hdy, hlatched, irqEdge_of_raised (raised := cause)]
  simp only [anyCause]
  ac_rfl

/-- A report whose sums are where the position stands changes nothing (R273, R282). -/
theorem exec_move_of_still {dx dy : Int} {s : State} (hdx : signedByte dx) (hdy : signedByte dy) (hfit : coordsFit s)
    (hx : satAdd s.x dx s.minx s.maxx = s.x) (hy : satAdd s.y dy s.miny s.maxy = s.y) :
    exec (.move dx dy) s = .next { s with out := none } := by
  rw [moveReport dx dy s hdx hdy hfit, hx, hy]
  simp

/-- Settles O46: on the axis at its maximum there is no way up, and the other axis has no delta. -/
theorem moveSaturatesAtMaximum : Obligations.MoveSaturatesAtMaximum := by
  intro d s hd hpos hfit
  have hzero : signedByte 0 := by decide
  constructor
  · intro hmax
    exact exec_move_of_still hd hzero hfit (satAdd_of_eq_max hpos (congrArg Nat.cast hmax)) (satAdd_zero ..)
  · intro hmax
    exact exec_move_of_still hzero hd hfit (satAdd_zero ..) (satAdd_of_eq_max hpos (congrArg Nat.cast hmax))

/-! ### Buttons (R275) -/

theorem exec_button {k : Nat} (hk : k ≤ 1) (p : Bool) (s : State) :
    exec (.button k p) s = .next (irqEdge (anyCause s) (buttonReport k p s)) := by
  obtain ⟨t, ht⟩ : ∃ t, exec (.button k p) s = .next t := ⟨_, if_pos hk⟩
  rw [ht, (button_inversion ht).2]

/-- For the two buttons there are, the one that is not the first is the second. -/
theorem setButton_of_le_one {k : Nat} (hk : k ≤ 1) (p : Bool) (s : State) :
    setButton k p s = { s with btn0 := if k = 0 then p else s.btn0, btn1 := if k = 1 then p else s.btn1 } := by
  rw [setButton_eq]
  obtain rfl | rfl : k = 0 ∨ k = 1 := by omega
  · rfl
  · rfl

/-- Settles O47: the button, its enabled cause, and the edge for that cause. -/
theorem buttonReport_exact : Obligations.ButtonReport := by
  intro k p s hk cause
  have hraised : anyCause (buttonReport k p s) = (anyCause s || cause) := by
    rw [buttonReport, setButton_eq]
    change (s.causeMove || (s.causeBtn || cause) || s.causeRef) = ((s.causeMove || s.causeBtn || s.causeRef) || cause)
    ac_rfl
  rw [exec_button hk, irqEdge_of_raised hraised, buttonReport, setButton_of_le_one hk]
  rfl

/-! ### The refresh timer (R276, R279) -/

theorem exec_refreshPoll {now : Nat} {s : State} (htime : timeInRange s.params now) (horder : s.lastNow ≤ now) :
    exec (.refreshPoll now) s =
      .next (irqEdge (anyCause s) (refreshTimer now { quiet s with lastNow := now })) := by
  change execRefreshPoll now s = _
  rw [execRefreshPoll, if_neg (not_not.2 htime), if_neg (not_lt.2 horder)]

/-- A refresh poll whose timer leaves the causes ends as the timer leaves it. -/
theorem exec_refreshPoll_of_kept {now : Nat} {s u : State} (htime : timeInRange s.params now)
    (horder : s.lastNow ≤ now) (hu : refreshTimer now { quiet s with lastNow := now } = u)
    (hkept : anyCause u = anyCause s) :
    exec (.refreshPoll now) s = .next u := by
  rw [exec_refreshPoll htime horder, hu, irqEdge_of_kept hkept]

theorem refreshTimer_of_disabled {now : Nat} {s : State} (h : refIE s = false) :
    refreshTimer now s = { s with rdeadline := none } := by
  simp [refreshTimer, h]

theorem refreshTimer_of_unarmed {now : Nat} {s : State} (h : refIE s = true) (hd : s.rdeadline = none) :
    refreshTimer now s = { s with rdeadline := some (toTime s.params (now + s.rinterval)) } := by
  simp [refreshTimer, h, hd]

theorem refreshTimer_of_due {now d : Nat} {s : State} (h : refIE s = true) (hd : s.rdeadline = some d)
    (hdue : d ≤ now) :
    refreshTimer now s = { s with causeRef := true, rdeadline := some (toTime s.params (d + s.rinterval)) } := by
  simp [refreshTimer, h, hd, hdue]

theorem refreshTimer_of_waiting {now d : Nat} {s : State} (h : refIE s = true) (hd : s.rdeadline = some d)
    (hwait : now < d) : refreshTimer now s = s := by
  simp [refreshTimer, h, hd, hwait]

/-- Settles O48: each outcome of the timer; only the due one adds a cause, so only there the line can rise. -/
theorem refreshPollReport : Obligations.RefreshPollReport := by
  intro now s htime horder enabled
  refine ⟨fun hoff => ?_, fun hon hd => ?_, fun d hon hd hdue => ?_, fun d hon hd hwait => ?_⟩
  · exact exec_refreshPoll_of_kept htime horder (refreshTimer_of_disabled hoff) rfl
  · exact exec_refreshPoll_of_kept htime horder (refreshTimer_of_unarmed hon hd) rfl
  · rw [exec_refreshPoll htime horder, refreshTimer_of_due (s := { quiet s with lastNow := now }) hon hd hdue,
      irqEdge_of_raised (s := s) (raised := true) (by simp [anyCause]), Bool.true_and]
    rfl
  · exact exec_refreshPoll_of_kept htime horder (refreshTimer_of_waiting hon hd hwait) rfl

/-- The deadline that a refresh poll leaves, by the three outcomes of the timer that leave one (R276). -/
theorem rdeadline_of_refreshPoll {now : Nat} {s t : State} {d : Nat} (h : exec (.refreshPoll now) s = .next t)
    (hd : t.rdeadline = some d) :
    (s.rdeadline = none ∧ d = toTime s.params (now + s.rinterval)) ∨
    (∃ e, s.rdeadline = some e ∧ e ≤ now ∧ d = toTime s.params (e + s.rinterval)) ∨
    (s.rdeadline = some d ∧ now < d) := by
  obtain ⟨_, rfl⟩ := refreshPoll_inversion h
  rw [irqEdge_eq] at hd
  rcases refreshTimer_cases now { quiet s with lastNow := now } with
    ⟨_, he⟩ | ⟨_, hs, he⟩ | ⟨e, _, hs, hdue, he⟩ | ⟨e, _, hs, hwait, he⟩ <;> rw [he] at hd
  · cases hd
  · exact .inl ⟨hs, (Option.some.inj hd).symm⟩
  · exact .inr (.inl ⟨e, hs, hdue, (Option.some.inj hd).symm⟩)
  · have hde : some e = some d := hs.symm.trans hd
    cases hde
    exact .inr (.inr ⟨hs, hwait⟩)

/-- Settles O49: an interval is at most 20000, so by the bound on the time each stored sum fits. -/
theorem deadlineNeverWraps : Obligations.DeadlineNeverWraps := by
  intro now s t d hinv h hd
  obtain ⟨⟨htime, horder⟩, _⟩ := refreshPoll_inversion h
  have hinterval := rinterval_le hinv
  have hfits : ∀ n ≤ now, n + s.rinterval < 2 ^ s.params.timeW := fun n hn => by omega
  rcases rdeadline_of_refreshPoll h hd with ⟨hs, rfl⟩ | ⟨e, hs, hdue, rfl⟩ | ⟨hs, hwait⟩
  · rw [toTime_of_fits (hfits now le_rfl)]
    exact ⟨fun _ => rfl, by simp [hs], hfits now le_rfl⟩
  · rw [toTime_of_fits (hfits e hdue)]
    exact ⟨by simp [hs], by simp [hs, hdue], hfits e hdue⟩
  · have hahead := hinv.deadline d hs
    exact ⟨by simp [hs], by simp [hs, hwait], by omega⟩

end Sys2Proof.Machine
end

section
/-!
PROOFS. Who deasserts IRQ, and which instructions keep the position in the clamp rectangle (44_mouse_engine R278, R281).
-/

namespace Sys2Proof.Machine

/-! ### What a step can do to MouseState and IRQ -/

/-- What a step that answers `t` was for MouseState and IRQ: a reinitialisation, a command (alone or at the end of a
poll, whose handshake touches neither), a report of the mouse engine, or a step that leaves both. -/
inductive MouseStep (i : Instr) (s t : State) : Prop where
  | reinit (hr : reinitialises i s) {u : State} (hu : IsReinitOf u t)
  | command {c : Byte} {u : State} (hruns : ∀ op, runsOpcode op i s ↔ opcode c = op) (hr : ¬ reinitialises i s)
      (hmouse : sameMouse s u) (hinv : Inv s → Inv u) (h : exec (decodeCommand c) u = .next t)
  | report (hruns : ∀ op, ¬ runsOpcode op i s) (hr : ¬ reinitialises i s) (hi : IsReport i)
  | kept (hruns : ∀ op, ¬ runsOpcode op i s) (hr : ¬ reinitialises i s) (hmouse : sameMouse s t)

theorem mouseStep_of_sample {i : Instr} {addr : Addr} {s t : State} (hi : sampleAddr i = some addr)
    (h : exec i s = .next t) : MouseStep i s t := by
  rcases sample_reinit_or_frame hi h with ⟨hc, u, hu⟩ | ⟨hc, hf⟩
  · exact .reinit (.inr hc) hu
  · refine .kept (not_runsOpcode_of_sample hi · s) ?_ hf.mouse
    rintro (rfl | hc')
    · cases hi
    · exact hc hc'

theorem mouseStep_of_protoPoll {s t : State} (h : exec .protoPoll s = .next t) : MouseStep .protoPoll s t := by
  have hr : ¬ reinitialises .protoPoll s := not_reinitialises (i := .protoPoll) rfl nofun s
  have hmouse := (handshakeFrame_poll s).mouse
  rcases protoPoll_cases h with ⟨hnone, rfl⟩ | ⟨c, hsome, hc⟩
  · exact .kept (by simp [hnone]) hr hmouse
  · exact .command (by simp [hsome]) hr hmouse (fun hinv => inv_pollHandshake (inv_quiet hinv)) hc

theorem mouseStep_of_report {i : Instr} (s t : State) (hi : IsReport i) : MouseStep i s t :=
  have hn := fun op => not_or.1 (not_runsOrReinits_of_report hi op s)
  .report (fun op => (hn op).1) (hn 0).2 hi

/-- Every instruction that answers a next state is of one of the four sorts. -/
theorem mouseStep {i : Instr} {s t : State} (h : exec i s = .next t) : MouseStep i s t := by
  cases instrKind i with
  | sample hi => exact mouseStep_of_sample hi h
  | command c =>
    exact .command (fun op => runsOpcode_command op c s) (not_reinitialises_command c s) (by simp [sameMouse]) id h
  | protoPoll => exact mouseStep_of_protoPoll h
  | move dx dy => exact mouseStep_of_report s t (.inl ⟨dx, dy, rfl⟩)
  | button k p => exact mouseStep_of_report s t (.inr (.inl ⟨k, p, rfl⟩))
  | refreshPoll now => exact mouseStep_of_report s t (.inr (.inr ⟨now, rfl⟩))
  | setInput port v =>
    refine .kept (not_runsOpcode rfl (by simp) · s) (not_reinitialises rfl (by simp) s) ?_
    cases port <;> cases h <;> simp [sameMouse]
  | reinitialize =>
    obtain ⟨u, hu⟩ := isReinitOf_of_reinitialises h (.inl rfl)
    exact .reinit (.inl rfl) hu

/-! ### The interrupt line (R278) -/

theorem irq_of_sameMouse {s t : State} (h : sameMouse s t) : t.irq = s.irq := by
  obtain ⟨_, _, _, _, _, _, _, _, _, _, _, _, _, _, _, _, _, _, _, hirq⟩ := h
  exact hirq

/-- Among the commands SERVE and INIT deassert the line and no other touches it (43_commands R222, R225). -/
theorem command_irq {c : Byte} {s t : State} (h : exec (decodeCommand c) s = .next t) :
    t.irq = if opcode c = 0x2 ∨ opcode c = 0x5 then false else s.irq := by
  generalize hi : decodeCommand c = i at h
  have hc : encode i = .command c := hi ▸ encode_decodeCommand c
  cases i with
  | serve sub => cases hc; cases h; simp
  | init sub => cases hc; cases h; simp
  | readStatus sub => cases hc; cases h; simp [stageReply]
  | setClamp sub axisY => cases hc; cases h; cases axisY <;> simp
  | setMode | clearPos | setPos | home | setTiming | nop8 | vendor | nopB | nopC | nopD | nopE | nopF =>
    cases hc; cases h; simp
  | _ => cases hc

/-- Settles O53: by the sort of step; a report only ever asserts the line. -/
theorem onlyServeInitReinitDeassertIrq : Obligations.OnlyServeInitReinitDeassertIrq := by
  intro i s t h
  cases mouseStep h with
  | reinit hr hu =>
    obtain ⟨r, o, rfl⟩ := hu
    exact ⟨fun _ => rfl, fun _ _ => .inr (.inr hr)⟩
  | command hruns hr hmouse _ hc =>
    have hirq := command_irq hc
    simp only [hruns, hr, or_false]
    split at hirq
    next hop => exact ⟨fun _ => hirq, fun _ _ => hop⟩
    next hop =>
      exact ⟨fun hop' => absurd hop' hop, fun h1 h0 => by simp [hirq, irq_of_sameMouse hmouse, h1] at h0⟩
  | report hruns hr hi =>
    simp only [hruns, hr, or_false, false_implies, true_and]
    exact fun h1 h0 => by simp [irq_of_report h hi, h1] at h0
  | kept hruns hr hmouse =>
    simp only [hruns, hr, or_false, false_implies, true_and]
    exact fun h1 h0 => by simp [irq_of_sameMouse hmouse, h1] at h0

/-! ### The position and the rectangle (R281) -/

/-- Two states with the same position and clamp rectangle (10_state R37, R44). -/
abbrev samePlace (s t : State) : Prop :=
  t.x = s.x ∧ t.y = s.y ∧ t.minx = s.minx ∧ t.maxx = s.maxx ∧ t.miny = s.miny ∧ t.maxy = s.maxy

theorem samePlace_of_sameMouse {s t : State} (h : sameMouse s t) : samePlace s t := by
  obtain ⟨hx, hy, _, _, _, _, _, _, _, _, _, _, _, hminx, hmaxx, hminy, hmaxy, _⟩ := h
  exact ⟨hx, hy, hminx, hmaxx, hminy, hmaxy⟩

theorem inRectangle_iff_of_samePlace {s t : State} (h : samePlace s t) : inRectangle t ↔ inRectangle s := by
  obtain ⟨hx, hy, hminx, hmaxx, hminy, hmaxy⟩ := h
  rw [inRectangle, hx, hy, hminx, hmaxx, hminy, hmaxy]

/-- The commands that place the position: SETPOS, SETCLAMP, HOME and INIT. -/
abbrev placesPosition (op : BitVec 4) : Prop := op = 0x4 ∨ op = 0x6 ∨ op = 0x7 ∨ op = 0x5

/-- What a command does to position and rectangle (43_commands). -/
inductive CommandPlace (c : Byte) (s t : State) : Prop where
  | placed (hop : placesPosition (opcode c)) (h : inRectangle t)
  | cleared (hop : opcode c = 0x3) (hx : t.x = 0) (hy : t.y = 0)
  | kept (hop : ¬ placesPosition (opcode c)) (h : samePlace s t)

theorem min_max_mem {v lo hi : Nat} (h : lo ≤ hi) : lo ≤ min (max v lo) hi ∧ min (max v lo) hi ≤ hi :=
  ⟨le_min (le_max_right v lo) h, min_le_right _ hi⟩

/-- A reclamped position lies in the rectangle (43_commands R226). -/
theorem inRectangle_reclamp {s : State} (h : Inv (reclamp s)) : inRectangle (reclamp s) := by
  obtain ⟨_, _, _, _, _, hxmax, _, hymax⟩ := h.coords
  have ⟨hxlo, hxhi⟩ := min_max_mem (v := s.x) h.clampX
  have ⟨hylo, hyhi⟩ := min_max_mem (v := s.y) h.clampY
  rw [reclamp_eq (s := s) hxmax hymax]
  exact ⟨hxlo, hxhi, hylo, hyhi⟩

theorem inRectangle_homePosition {s : State} (hx : s.minx ≤ s.maxx) (hy : s.miny ≤ s.maxy) :
    inRectangle (homePosition s) :=
  ⟨le_rfl, hx, le_rfl, hy⟩

theorem inRectangle_of_isReinitOf {u t : State} (h : IsReinitOf u t) : inRectangle t := by
  obtain ⟨r, o, rfl⟩ := h
  exact ⟨le_rfl, Nat.zero_le _, le_rfl, Nat.zero_le _⟩

theorem inRectangle_setPos (sub : BitVec 4) {s t : State} (h : exec (.setPos sub) s = .next t) (hinv : Inv s) :
    inRectangle t := by
  obtain ⟨_, _, _, _, _, hxmax, _, hymax⟩ := hinv.coords
  have ⟨hxlo, hxhi⟩ := min_max_mem (v := setPosX s) hinv.clampX
  have ⟨hylo, hyhi⟩ := min_max_mem (v := setPosY s) hinv.clampY
  rw [← clampCoord_eq _ hxmax] at hxlo hxhi
  rw [← clampCoord_eq _ hymax] at hylo hyhi
  cases h
  exact ⟨hxlo, hxhi, hylo, hyhi⟩

theorem command_place {c : Byte} {s t : State} (h : exec (decodeCommand c) s = .next t) (hinv : Inv s) :
    CommandPlace c s t := by
  have ht : Inv t := inv_command h hinv
  generalize hi : decodeCommand c = i at h
  have hc : encode i = .command c := hi ▸ encode_decodeCommand c
  cases i with
  | setPos sub => cases hc; exact .placed (by simp [placesPosition]) (inRectangle_setPos sub h hinv)
  | setClamp sub axisY => cases hc; cases h; exact .placed (by simp [placesPosition]) (inRectangle_reclamp ht)
  | home sub =>
    cases hc; cases h
    exact .placed (by simp [placesPosition]) (inRectangle_homePosition hinv.clampX hinv.clampY)
  | init sub =>
    cases hc; cases h
    exact .placed (by simp [placesPosition])
      (inRectangle_homePosition (s := { s with minx := 0, maxx := _, miny := 0, maxy := _ }) (Nat.zero_le _)
        (Nat.zero_le _))
  | clearPos sub => cases hc; cases h; exact .cleared (by simp) rfl rfl
  | setMode | readStatus | serve | setTiming | nop8 | vendor | nopB | nopC | nopD | nopE | nopF =>
    cases hc; cases h; exact .kept (by simp [placesPosition]) ⟨rfl, rfl, rfl, rfl, rfl, rfl⟩
  | _ => cases hc

/-- The place after a movement report under the invariant: the rectangle stays, and the coordinates are the saturated
sums (R273). -/
theorem move_place {dx dy : Int} {s t : State} (h : exec (.move dx dy) s = .next t) (hinv : Inv s) :
    (t.x : Int) = satAdd s.x dx s.minx s.maxx ∧ (t.y : Int) = satAdd s.y dy s.miny s.maxy ∧
      t.minx = s.minx ∧ t.maxx = s.maxx ∧ t.miny = s.miny ∧ t.maxy = s.maxy := by
  obtain ⟨⟨hdx, hdy⟩, _⟩ := move_inversion h
  rw [moveReport dx dy s hdx hdy hinv.coords] at h
  cases h
  exact ⟨Int.toNat_of_nonneg (satAdd_range ..).1, Int.toNat_of_nonneg (satAdd_range ..).1, rfl, rfl, rfl, rfl⟩

/-- A button report and a refresh poll leave position and rectangle (20_memory R68). -/
theorem samePlace_of_other_report {i : Instr} {s t : State} (h : exec i s = .next t) (hi : IsReport i)
    (hm : ∀ dx dy, i ≠ .move dx dy) : samePlace s t := by
  rcases hi with ⟨dx, dy, rfl⟩ | ⟨k, p, rfl⟩ | ⟨now, rfl⟩
  · exact absurd rfl (hm dx dy)
  · obtain ⟨_, rfl⟩ := button_inversion h
    simp [samePlace, irqEdge_eq, buttonReport, setButton_eq]
  · obtain ⟨_, rfl⟩ := refreshPoll_inversion h
    rw [irqEdge_eq]
    rcases refreshTimer_cases now { quiet s with lastNow := now } with
      ⟨_, he⟩ | ⟨_, _, he⟩ | ⟨d, _, _, _, he⟩ | ⟨d, _, _, _, he⟩ <;> rw [he] <;> simp [samePlace]

/-- No report takes a position out of the rectangle (R281). -/
theorem inRectangle_of_report {i : Instr} {s t : State} (h : exec i s = .next t) (hi : IsReport i) (hinv : Inv s)
    (hs : inRectangle s) : inRectangle t := by
  by_cases hm : ∃ dx dy, i = .move dx dy
  · obtain ⟨dx, dy, rfl⟩ := hm
    obtain ⟨hxlo, hxhi, hylo, hyhi⟩ := hs
    obtain ⟨hx, hy, hminx, hmaxx, hminy, hmaxy⟩ := move_place h hinv
    have hxb := satAdd_bounds dx (Int.ofNat_le.2 hinv.clampX) (Int.ofNat_le.2 hxhi)
    have hyb := satAdd_bounds dy (Int.ofNat_le.2 hinv.clampY) (Int.ofNat_le.2 hyhi)
    rw [inRectangle]
    omega
  · exact (inRectangle_iff_of_samePlace (samePlace_of_other_report h hi fun dx dy he => hm ⟨dx, dy, he⟩)).2 hs

/-- From below the minimum a movement report goes no further out (R281). -/
theorem move_from_below {dx dy : Int} {s t : State} (h : exec (.move dx dy) s = .next t) (hinv : Inv s) :
    (s.x < s.minx → s.x ≤ t.x ∧ t.x ≤ s.maxx) ∧ (s.y < s.miny → s.y ≤ t.y ∧ t.y ≤ s.maxy) := by
  obtain ⟨hx, hy, _⟩ := move_place h hinv
  have hxle := hinv.clampX
  have hyle := hinv.clampY
  constructor
  · intro hbelow
    have := satAdd_bounds dx (Int.ofNat_le.2 hxle) (Int.ofNat_le.2 (hbelow.le.trans hxle))
    omega
  · intro hbelow
    have := satAdd_bounds dy (Int.ofNat_le.2 hyle) (Int.ofNat_le.2 (hbelow.le.trans hyle))
    omega

/-- Settles O57: by the sort of step; of the commands only CLEARPOS leaves a rectangle, and movement saturates. -/
theorem positionAndRectangle : Obligations.PositionAndRectangle := by
  intro i s t hinv h
  rw [← and_assoc]
  refine ⟨?_, fun dx dy hi => move_from_below (hi ▸ h) hinv⟩
  cases mouseStep h with
  | reinit _ hu =>
    have ht := inRectangle_of_isReinitOf hu
    exact ⟨fun _ => ht, fun _ hout => absurd ht hout⟩
  | command hruns hr hmouse hu hc =>
    simp only [hruns, hr, or_false]
    cases command_place hc (hu hinv) with
    | placed hop ht => exact ⟨fun _ => ht, fun _ hout => absurd ht hout⟩
    | cleared hop hx hy => exact ⟨by simp [hop], fun _ _ => ⟨hop, hx, hy⟩⟩
    | kept hop hplace =>
      have hrect := (inRectangle_iff_of_samePlace hplace).trans
        (inRectangle_iff_of_samePlace (samePlace_of_sameMouse hmouse))
      exact ⟨fun hop' => absurd hop' hop, fun hin hout => absurd (hrect.2 hin) hout⟩
  | report hruns hr hi =>
    simp only [hruns, hr, or_false, false_implies, true_and]
    exact fun hin hout => absurd (inRectangle_of_report h hi hinv hin) hout
  | kept hruns hr hmouse =>
    have hrect := inRectangle_iff_of_samePlace (samePlace_of_sameMouse hmouse)
    simp only [hruns, hr, or_false, false_implies, true_and]
    exact fun hin hout => absurd (hrect.2 hin) hout

end Sys2Proof.Machine
end

section
/-!
PROOFS. The admitted actions and their refusals, the runs from power-on, and the latched cause that keeps the interrupt
line down (60_exceptions R310, R311, R317).
-/

namespace Sys2Proof.Machine

/-! ### Every admitted action completes (R310, R311) -/

/-- The step takes an admitted action off the list: what R311 asks of a sample is what the step tests of it. -/
theorem admission_of_admits {s : State} {a : Stimulus} (h : admits s a) : admission s.params a = none :=
  (admission_eq_none_iff s.params a).2 fun _ _ ha => by subst ha; exact h

/-- A poll completes in every state, since the command it may run does (42_protocol R186). -/
theorem protoPoll_completes (s : State) : ∃ t, exec .protoPoll s = .next t := by
  rw [protoPoll_eq]
  split
  next c _ =>
    obtain ⟨t, ht, _⟩ := command_completes c (pollHandshake (quiet s)).1
    exact ⟨t, ht⟩
  next => exact ⟨_, rfl⟩

theorem exec_completes_of_admits {s : State} {a : Stimulus} (hinv : Inv s) (h : admits s a) :
    ∃ t, exec (decodeStimulus a) s = .next t := by
  cases a with
  | sample w data => exact everySampleCompletes s w data hinv
  | protoPoll => exact protoPoll_completes s
  | move dx dy =>
    obtain ⟨hx, hy⟩ := h
    exact ⟨_, exec_move hx hy s⟩
  | button k p => exact ⟨_, exec_button h p s⟩
  | refreshPoll now =>
    obtain ⟨horder, htime⟩ := h
    exact ⟨_, exec_refreshPoll htime horder⟩
  | setInput port v => cases port <;> exact ⟨_, rfl⟩
  | reinitialize => exact ⟨_, rfl⟩

/-- Settles O7: the step executes the admitted action, which by its kind completes. -/
theorem admittedActionsComplete : Obligations.AdmittedActionsComplete := by
  intro s a rest hinv hinputs hadmits
  rw [step_of_admitted hinputs (admission_of_admits hadmits)]
  exact exec_completes_of_admits (inv_inputs rest hinv) hadmits

/-! ### No run faults (R310) -/

/-- Power-on under admissible parameters has the invariant (70_reset_and_hazards R343). -/
theorem inv_powerOn {p : Params} (h : p.valid) : Inv (State.powerOn p) :=
  have hp := paramBounds h
  have hpos : 0 < 2 ^ p.coordW := Nat.two_pow_pos _
  have htime : timeInRange p 0 := by
    obtain ⟨_, _, _, _, _, _, _, _, _, _, _, _, _, _, _, _, _, htimeW, _⟩ := h
    simpa [timeInRange] using htimeW
  { params := h
    romoff := (romPageOffset_zero p).symm
    clampX := Nat.zero_le _
    clampY := Nat.zero_le _
    coords := ⟨hpos, hpos, hpos, hpos, hpos, hp.clampMax, hpos, hp.clampMax⟩
    replies := Nat.zero_le _
    pbufLength := List.length_replicate
    rbufLength := List.length_replicate
    pbufTail := fun _ hb => List.eq_of_mem_replicate (List.mem_of_mem_drop hb)
    rbufTail := fun _ hb => List.eq_of_mem_replicate (List.mem_of_mem_drop hb)
    awaiting := Nat.zero_le _
    interval := .inr (.inr rfl)
    deadline := nofun
    time := htime
    irqCause := nofun
    debug := nofun
    romForm := ⟨List.Pairwise.nil, nofun⟩
    romSize := nofun }

theorem inv_of_reachable {s : State} (h : Reachable s) : Inv s := by
  induction h with
  | powerOn p hp => exact inv_powerOn hp
  | choose s a _ ih => exact inv_inputs _ ih
  | step s t _ hstep ih =>
    obtain ⟨hkeeps, _⟩ := everyStepKeepsInvariant s ih
    exact (hkeeps t hstep).1

/-- Settles O60: every state of a run has the invariant, under which no step faults. -/
theorem noReachableFault : Obligations.NoReachableFault := fun s h =>
  have hinv := inv_of_reachable h
  have ⟨_, hnofault⟩ := everyStepKeepsInvariant s hinv
  ⟨hinv, hnofault⟩

/-! ### A latched cause keeps the line down (R317) -/

theorem anyCause_of_keptOrRaised {i : Instr} {s t : State} (hk : CausesKeptOrRaised i s t) (h : anyCause s = true) :
    anyCause t = true :=
  anyCause_mono h (fun hm => hk.move.elim (·.trans hm) And.left) (fun hb => hk.btn.elim (·.trans hb) And.left)
    (fun hr => hk.ref.elim (·.trans hr) And.left)

/-- With a cause latched no instruction asserts the line: only reports do, on the edge from no cause to one (R277). -/
theorem irq_down_of_cause_latched {i : Instr} {s t : State} (h : exec i s = .next t) (hirq : s.irq = false)
    (hcause : anyCause s = true) : t.irq = false := by
  cases mouseStep h with
  | reinit _ hu =>
    obtain ⟨r, o, rfl⟩ := hu
    rfl
  | command _ _ hmouse _ hc =>
    rw [command_irq hc, irq_of_sameMouse hmouse, hirq, ite_self]
  | report _ _ hi => rw [irq_of_report h hi, hirq, hcause]; rfl
  | kept _ _ hmouse => rw [irq_of_sameMouse hmouse, hirq]

/-- Settles O51: the causes fall only by SERVE and reinitialisation, and while one is latched the line stays down. -/
theorem pendingCauseBlocksAssertAfterInit : Obligations.PendingCauseBlocksAssertAfterInit := by
  refine ⟨fun i s t hirq hcause h hserve hreinit => ⟨irq_down_of_cause_latched h hirq hcause, ?_⟩,
    fun sub s hcause => ⟨_, rfl, rfl, hcause⟩⟩
  rcases causes_cleared_or_kept h with ⟨hrun, _⟩ | ⟨_, hk⟩
  · exact absurd hrun (not_or.2 ⟨hserve, hreinit⟩)
  · exact anyCause_of_keptOrRaised hk hcause

/-! ### What is refused (R311) -/

theorem exec_move_refused_iff (dx dy : Int) (s : State) :
    exec (.move dx dy) s = .refused .moveOutsideSignedByte ↔ ¬ (signedByte dx ∧ signedByte dy) := by
  change execMove dx dy s = _ ↔ _
  unfold execMove
  split
  next hd => exact iff_of_false nofun (not_not.2 hd)
  next hd => exact iff_of_true rfl hd

theorem exec_button_refused_iff (k : Nat) (p : Bool) (s : State) :
    exec (.button k p) s = .refused .buttonIndexOutside ↔ ¬ k ≤ 1 := by
  change execButton k p s = _ ↔ _
  unfold execButton
  split
  next hk => exact iff_of_false nofun (not_not.2 hk)
  next hk => exact iff_of_true rfl hk

/-- A refresh poll tests its time first for wrapping, then for going back; in order it answers a next state. -/
theorem exec_refreshPoll_cases (now : Nat) (s : State) :
    (¬ timeInRange s.params now ∧ exec (.refreshPoll now) s = .refused .timeOutOfRange) ∨
    ((timeInRange s.params now ∧ now < s.lastNow) ∧ exec (.refreshPoll now) s = .refused .timeNotMonotonic) ∨
    ((timeInRange s.params now ∧ s.lastNow ≤ now) ∧ ∃ t, exec (.refreshPoll now) s = .next t) := by
  by_cases htime : timeInRange s.params now
  · by_cases hback : now < s.lastNow
    · exact .inr (.inl ⟨⟨htime, hback⟩, (if_neg (not_not.2 htime)).trans (if_pos hback)⟩)
    · have horder := not_lt.1 hback
      exact .inr (.inr ⟨⟨htime, horder⟩, _, exec_refreshPoll htime horder⟩)
  · exact .inl ⟨htime, if_pos htime⟩

theorem exec_refreshPoll_wrap_iff (now : Nat) (s : State) :
    exec (.refreshPoll now) s = .refused .timeOutOfRange ↔ ¬ timeInRange s.params now := by
  rcases exec_refreshPoll_cases now s with ⟨htime, he⟩ | ⟨⟨htime, _⟩, he⟩ | ⟨⟨htime, _⟩, t, he⟩ <;> simp [he, htime]

theorem exec_refreshPoll_back_iff (now : Nat) (s : State) :
    exec (.refreshPoll now) s = .refused .timeNotMonotonic ↔ timeInRange s.params now ∧ now < s.lastNow := by
  rcases exec_refreshPoll_cases now s with ⟨htime, he⟩ | ⟨⟨htime, hback⟩, he⟩ | ⟨⟨htime, horder⟩, t, he⟩
  · simp [he, htime]
  · simp [he, htime, hback]
  · simp [he, htime, horder]

/-- No sample's meaning refuses; it completes, or faults outside the ROM image (41_bus_dispatch R162, log 5). -/
theorem sample_ne_refused {i : Instr} {addr : Addr} {s : State} (hi : sampleAddr i = some addr) (r : Refusal) :
    exec i s ≠ .refused r := by
  cases i with
  | busWR0 | busRR0 | busWR1 | busRR1 | busWR2 | busRR2 | busWR3 | busRR3 | busUnsel | busSelNowin => exact nofun
  | busRRom a =>
    change execBusRRom a s ≠ _
    unfold execBusRRom
    split <;> exact nofun
  | busWRom a d =>
    change execBusWRom a d s ≠ _
    unfold execBusWRom
    split_ifs <;> exact nofun
  | _ => cases hi

/-- The step that would take a sample refuses it exactly where its flags are not the window decode (R311, log 7). -/
theorem step_sample_refused_iff {s : State} {w : BitVec 20} {data : Byte} {rest : List Stimulus}
    (h : s.inputs = .sample w data :: rest) :
    step s = .refused .sampleFlagsDisagree ↔ ¬ flagsAgree s.params (BusSample.ofWord w data) := by
  by_cases hagree : flagsAgree s.params (BusSample.ofWord w data)
  · rw [step_of_admitted h (admission_of_admits (a := .sample w data) hagree)]
    exact iff_of_false (sample_ne_refused (sampleAddr_of_row (sampleRow_decodeSample w data)) _) (not_not.2 hagree)
  · exact iff_of_true (step_of_refused h (admission_of_disagree hagree)) hagree

theorem inDevWindow_iff (p : Params) (addr : Addr) :
    inDevWindow p addr = true ↔ p.devBase ≤ addr.toNat ∧ addr.toNat < p.devBase + p.devSize := by
  simp [inDevWindow]

theorem inRomWindow_iff (p : Params) (addr : Addr) :
    inRomWindow p addr = true ↔ p.romBase ≤ addr.toNat ∧ addr.toNat < p.romBase + p.pageSize := by
  simp [inRomWindow]

/-- The flags of a sample word agree with the windows, bit by bit (30_encoding R81, 41_bus_dispatch R151). -/
theorem flagsAgree_ofWord_iff (p : Params) (w : BitVec 20) (data : Byte) :
    flagsAgree p (BusSample.ofWord w data) ↔
      (w.getLsbD 17 = true ↔
        p.devBase ≤ (w.extractLsb' 0 16).toNat ∧ (w.extractLsb' 0 16).toNat < p.devBase + p.devSize) ∧
      (w.getLsbD 18 = true ↔
        p.romBase ≤ (w.extractLsb' 0 16).toNat ∧ (w.extractLsb' 0 16).toNat < p.romBase + p.pageSize) ∧
      w.getLsbD 19 = (w.getLsbD 17 || w.getLsbD 18) :=
  and_congr (Bool.eq_iff_iff.trans (iff_congr Iff.rfl (inDevWindow_iff p _)))
    (and_congr (Bool.eq_iff_iff.trans (iff_congr Iff.rfl (inRomWindow_iff p _))) Iff.rfl)

/-- Settles O52: each refusal is an equivalence of its own; a sample's is read off the word's bits. -/
theorem unadmittedArgumentsRefused : Obligations.UnadmittedArgumentsRefused := fun s =>
  ⟨fun dx dy => (exec_move_refused_iff dx dy s).symm,
    fun k p => (exec_button_refused_iff k p s).symm,
    fun now => (exec_refreshPoll_wrap_iff now s).symm,
    fun now => (exec_refreshPoll_back_iff now s).symm,
    fun w data _ h => (step_sample_refused_iff h).trans (not_congr (flagsAgree_ofWord_iff s.params w data))⟩

end Sys2Proof.Machine
end

section
/-!
PROOFS. Reset: what reinitialisation and power-on give, and the detector that every sample steps by its address
(70_reset_and_hazards R340 to R347).
-/

namespace Sys2Proof.Machine

/-! ### Reinitialisation (R341, R342) -/

theorem exec_reinitialize (s : State) : exec .reinitialize s = .next (reinit (quiet s)) := rfl

/-- Settles O23: the reset values are those of any reinitialised state, and the elements left alone are untouched. -/
theorem reinitializeResets : Obligations.ReinitializeResets := by
  intro s
  refine ⟨reinit (quiet s), exec_reinitialize s, isReinitialised_of_isReinitOf ⟨_, _, rfl⟩,
    rfl, rfl, rfl, rfl, rfl, rfl, rfl, rfl, fun slot hslot => ?_⟩
  rw [reinit_maxx, reinit_maxy, reinit_rinterval, quiet_params, hslot]
  exact ⟨rfl, rfl, rfl⟩

/-- No reset value depends on an element that is reset, and the output is already none. -/
theorem reinit_quiet_idem (s : State) : reinit (quiet (reinit (quiet s))) = reinit (quiet s) := rfl

/-- Settles O24: the next state is `reinit (quiet s)`, which a second reinitialisation keeps. -/
theorem reinitializeIsIdempotent : Obligations.ReinitializeIsIdempotent := by
  intro s t h
  cases h
  rw [exec_reinitialize, reinit_quiet_idem]

/-! ### Power-on (R343) -/

/-- A reinitialisation right after power-on changes nothing: page 0 is the page two cleared registers select. -/
theorem reinit_powerOn (p : Params) : reinit (State.powerOn p) = State.powerOn p := by
  have hpage : romPageOffset (State.powerOn p).params 0 0 = 0 := romPageOffset_zero p
  rw [reinit, hpage]
  rfl

theorem isReinitialised_powerOn (p : Params) : isReinitialised (State.powerOn p) :=
  isReinitialised_of_isReinitOf ⟨_, _, (reinit_powerOn p).symm⟩

/-- Settles O25: the ROM image's list is empty, so each byte reads as ROM_IMAGE's. -/
theorem powerOnState : Obligations.PowerOnState :=
  ⟨fun p => ⟨isReinitialised_powerOn p, rfl, fun _ => rfl, rfl⟩, rfl, rfl, rfl⟩

theorem params_default_valid : Params.default.valid := by decide

/-- Settles O59: the defaults are one admissible choice of the parameters. -/
theorem powerOnHasInvariant : Obligations.PowerOnHasInvariant :=
  ⟨fun _ => inv_powerOn, inv_powerOn params_default_valid⟩

/-! ### The detector's step in every sample (R344, R345) -/

/-- The detector's next state, from its state and the sample's address (R344). -/
def detectorNext (p : Params) (addr : Addr) : RState → RState
  | .waitLow => if addr = p.rvLo then .waitHigh else .waitLow
  | .waitHigh => if addr = p.rvHi then .waitEntry else .waitLow
  | .waitEntry => .waitLow

@[simp] theorem endSample_rstate (s : State) (addr : Addr) (answer : Option Byte) :
    (endSample addr answer s).rstate = detectorNext s.params addr s.rstate := by
  cases hr : s.rstate with
  | waitLow => rw [endSample_of_waitLow addr answer hr]; rfl
  | waitHigh => rw [endSample_of_waitHigh addr answer hr]; rfl
  | waitEntry =>
    by_cases ha : addr = s.params.resetEntry
    · rw [endSample_of_entry answer hr ha]; rfl
    · rw [endSample_of_mismatch answer hr ha]; rfl

/-- Every sample steps the detector by its address alone: its dispatch writes neither RSTATE nor the parameters. -/
theorem sample_rstate {i : Instr} {addr : Addr} {s t : State} (hi : sampleAddr i = some addr)
    (h : exec i s = .next t) : t.rstate = detectorNext s.params addr s.rstate := by
  obtain ⟨u, answer, hu, rfl⟩ := sample_inversion hi h
  rw [endSample_rstate, hu.params, hu.rstate]

theorem sampleFrame_of_not_completes {i : Instr} {addr : Addr} {s t : State} (hi : sampleAddr i = some addr)
    (h : exec i s = .next t) (hn : ¬ completesFingerprint i s) : SampleFrame s t :=
  (sample_reinit_or_frame hi h).elim (fun ⟨hc, _⟩ => absurd hc hn) And.right

theorem isReinitialised_of_completes {i : Instr} {s t : State} (h : exec i s = .next t)
    (hc : completesFingerprint i s) : isReinitialised t :=
  have ⟨_, hu⟩ := isReinitOf_of_reinitialises h (.inr hc)
  isReinitialised_of_isReinitOf hu

/-- Settles O21: the detector's next state, and a frame or a reinitialisation by whether the fingerprint completes. -/
theorem everySampleAdvancesDetector : Obligations.EverySampleAdvancesDetector := by
  intro i addr s t hi h
  refine ⟨sample_rstate hi h, fun hn => ?_, isReinitialised_of_completes h⟩
  obtain ⟨hprotocol, hmouse, hina, hinb⟩ := sampleFrame_of_not_completes hi h hn
  exact ⟨hprotocol, hmouse, hina, hinb⟩

/-! ### The fingerprint's three samples (R344, R347) -/

theorem sameProtocol_trans {s t u : State} (hst : sameProtocol s t) (htu : sameProtocol t u) : sameProtocol s u := by
  simp_all only [sameProtocol, and_self]

theorem sameMouse_trans {s t u : State} (hst : sameMouse s t) (htu : sameMouse t u) : sameMouse s u := by
  simp_all only [sameMouse, and_self]

theorem sampleFrame_trans {s t u : State} (hst : SampleFrame s t) (htu : SampleFrame t u) : SampleFrame s u :=
  ⟨sameProtocol_trans hst.protocol htu.protocol, sameMouse_trans hst.mouse htu.mouse, htu.ina.trans hst.ina,
    htu.inb.trans hst.inb⟩

/-- The fingerprint's first two samples take the detector from state 0 to state 2, and complete nothing (R344). -/
theorem fingerprint_first_two {i j : Instr} {s t u : State} (hs : s.rstate = .waitLow)
    (hi : sampleAddr i = some s.params.rvLo) (hj : sampleAddr j = some s.params.rvHi)
    (ht : exec i s = .next t) (hu : exec j t = .next u) : u.rstate = .waitEntry ∧ SampleFrame s u := by
  have htstate : t.rstate = .waitHigh := by rw [sample_rstate hi ht, hs]; exact if_pos rfl
  have hustate : u.rstate = .waitEntry := by rw [sample_rstate hj hu, htstate, exec_params ht]; exact if_pos rfl
  have hst : SampleFrame s t := sampleFrame_of_not_completes hi ht (by simp [completesFingerprint, hs])
  have htu : SampleFrame t u := sampleFrame_of_not_completes hj hu (by simp [completesFingerprint, htstate])
  exact ⟨hustate, sampleFrame_trans hst htu⟩

/-- Settles O22: in state 2 the third sample's address alone decides between a reinitialisation and a frame. -/
theorem fingerprintReinitialises : Obligations.FingerprintReinitialises := by
  intro i j k s t u v a hs hi hj hk ht hu hv
  obtain ⟨hustate, hsu⟩ := fingerprint_first_two hs hi hj ht hu
  have hparams : u.params = s.params := (exec_params hu).trans (exec_params ht)
  refine ⟨?_, fun ha => ?_, fun ha => ?_⟩
  · rw [sample_rstate hk hv, hustate]; rfl
  · exact isReinitialised_of_completes hv ⟨hustate, by rw [hk, ha, hparams]⟩
  · have hn : ¬ completesFingerprint k u := by simp [completesFingerprint, hk, hparams, ha]
    obtain ⟨hprotocol, hmouse, hina, hinb⟩ := sampleFrame_trans hsu (sampleFrame_of_not_completes hk hv hn)
    exact ⟨hprotocol, hmouse, hina, hinb⟩

end Sys2Proof.Machine
end

section
/-!
PROOFS. The debug latch DBGWE: which instruction sets it, and that none clears it (10_state R48, 41_bus_dispatch R154).
-/

namespace Sys2Proof.Machine

/-! ### The sentinel test (R154) -/

theorem isSentinel_iff {p : Params} {dbg : DebugPath} (h : p.debugPath = some dbg) (addr : Addr) (d : Byte) :
    isSentinel p addr d = true ↔ (addr.extractLsb' 0 4).toNat = dbg.offset ∧ d = dbg.sentinel := by
  simp only [isSentinel, h, Bool.and_eq_true, beq_iff_eq]

theorem isSentinel_of_no_path {p : Params} (h : p.debugPath = none) (addr : Addr) (d : Byte) :
    isSentinel p addr d = false := by
  simp only [isSentinel, h]

/-! ### Who writes the latch -/

@[simp] theorem regWrite0_dbgwe (d : Byte) (s : State) : (regWrite0 d s).dbgwe = s.dbgwe := by rw [regWrite0_eq]

@[simp] theorem regWrite1_dbgwe (d : Byte) (s : State) : (regWrite1 d s).dbgwe = s.dbgwe := rfl

@[simp] theorem regWrite2_dbgwe (d : Byte) (s : State) : (regWrite2 d s).dbgwe = s.dbgwe := by rw [regWrite2_eq]

@[simp] theorem regWrite3_dbgwe (d : Byte) (s : State) : (regWrite3 d s).dbgwe = s.dbgwe := rfl

/-- The sentinel test of a register write comes after the write, which leaves the latch and the parameters; the
detector's step keeps the latch even when it reinitialises (41_bus_dispatch R154, 70_reset R341). -/
theorem dbgwe_of_latched {s w : State} (addr : Addr) (d : Byte) (hw : DispatchFrame s w) (hlatch : w.dbgwe = s.dbgwe) :
    (endSample addr none (debugLatch addr d w)).dbgwe = (s.dbgwe || isSentinel s.params addr d) := by
  rw [endSample_dbgwe, debugLatch_eq, hlatch, hw.params]

/-- A device-register write adds its sentinel test to the latch, at whichever select. -/
theorem dbgwe_of_deviceWrite {i : Instr} {rom : Bool} {addr : Addr} {d : Byte} {s t : State}
    (hi : i ∈ deviceWrites rom addr d) (h : exec i s = .next t) :
    t.dbgwe = (s.dbgwe || isSentinel s.params addr d) := by
  simp only [List.mem_cons, List.not_mem_nil, or_false] at hi
  rcases hi with rfl | rfl | rfl | rfl <;> cases h
  · exact dbgwe_of_latched addr d (dispatchFrame_regWrite0 d s) (regWrite0_dbgwe d s)
  · exact dbgwe_of_latched addr d (dispatchFrame_regWrite1 d s) (regWrite1_dbgwe d s)
  · exact dbgwe_of_latched addr d (dispatchFrame_regWrite2 d s) (regWrite2_dbgwe d s)
  · exact dbgwe_of_latched addr d (dispatchFrame_regWrite3 d s) (regWrite3_dbgwe d s)

/-- BUS_W_ROM reads the latch and does not write it (41_bus_dispatch R158). -/
theorem dbgwe_of_busWRom {addr : Addr} {d : Byte} {s t : State} (h : exec (.busWRom addr d) s = .next t) :
    t.dbgwe = s.dbgwe := by
  simp only [exec, execBusWRom] at h
  split_ifs at h <;> cases h <;> exact endSample_dbgwe _ addr none

theorem dbgwe_of_busRRom {addr : Addr} {s t : State} (h : exec (.busRRom addr) s = .next t) : t.dbgwe = s.dbgwe := by
  simp only [exec, execBusRRom] at h
  split_ifs at h
  cases h
  exact endSample_dbgwe s addr _

/-- A sample that is no device-register write leaves the latch. -/
theorem dbgwe_of_other_sample {i : Instr} {addr : Addr} {s t : State} (hi : sampleAddr i = some addr)
    (hn : ∀ rom a d, i ∉ deviceWrites rom a d) (h : exec i s = .next t) : t.dbgwe = s.dbgwe := by
  cases i with
  | busWR0 rom a d | busWR1 rom a d | busWR2 rom a d | busWR3 rom a d => exact absurd (by simp) (hn rom a d)
  | busRR0 | busRR1 | busRR2 | busRR3 | busUnsel | busSelNowin => cases h; exact endSample_dbgwe s _ _
  | busRRom => exact dbgwe_of_busRRom h
  | busWRom => exact dbgwe_of_busWRom h
  | _ => cases hi

theorem dbgwe_of_protoPoll {s t : State} (h : exec .protoPoll s = .next t) : t.dbgwe = s.dbgwe := by
  have hs := (handshakeFrame_poll s).dbgwe
  rcases protoPoll_cases h with ⟨_, rfl⟩ | ⟨c, _, hc⟩
  · exact hs
  · exact (commandFrame_of_next hc).dbgwe.trans hs

/-- Nothing but a device-register write changes the latch, a reinitialisation included (10_state R48). -/
theorem dbgwe_of_no_deviceWrite {i : Instr} {s t : State} (hn : ∀ rom addr d, i ∉ deviceWrites rom addr d)
    (h : exec i s = .next t) : t.dbgwe = s.dbgwe := by
  cases instrKind i with
  | sample hi => exact dbgwe_of_other_sample hi hn h
  | command c => exact (commandFrame_of_next h).dbgwe
  | protoPoll => exact dbgwe_of_protoPoll h
  | move dx dy => exact (move_frame h).dbgwe
  | button k p => exact (button_frame h).dbgwe
  | refreshPoll now => exact (refreshPoll_frame h).dbgwe
  | setInput port v => cases port <;> cases h <;> rfl
  | reinitialize => cases h; rfl

/-- After any instruction the latch holds what it held, with the sentinel test added by a device-register write. -/
theorem dbgwe_kept_or_tested {i : Instr} {s t : State} (h : exec i s = .next t) :
    t.dbgwe = s.dbgwe ∨ ∃ addr d, t.dbgwe = (s.dbgwe || isSentinel s.params addr d) := by
  by_cases hw : ∃ rom addr d, i ∈ deviceWrites rom addr d
  · obtain ⟨rom, addr, d, hi⟩ := hw
    exact .inr ⟨addr, d, dbgwe_of_deviceWrite hi h⟩
  · exact .inl (dbgwe_of_no_deviceWrite (fun rom addr d hi => hw ⟨rom, addr, d, hi⟩) h)

/-- Settles O19: by whether the instruction is a device-register write; the sentinel test fails without the path. -/
theorem debugLatchRule : Obligations.DebugLatchRule := by
  refine ⟨fun i s t h => ⟨fun rom addr d dbg hi hpath => ?_, fun hn => dbgwe_of_no_deviceWrite hn h,
    fun hpath => ?_, fun hlatch => ?_⟩, fun _ => rfl⟩
  · rw [dbgwe_of_deviceWrite hi h, Bool.or_eq_true, isSentinel_iff hpath]
  · rcases dbgwe_kept_or_tested h with hkept | ⟨addr, d, htested⟩
    · exact hkept
    · rw [htested, isSentinel_of_no_path hpath, Bool.or_false]
  · rcases dbgwe_kept_or_tested h with hkept | ⟨addr, d, htested⟩
    · rw [hkept, hlatch]
    · rw [htested, hlatch, Bool.true_or]

end Sys2Proof.Machine
end
